-- ==== Sys2Proof/Word.lean ====
section
/-! DEFINITION. The widths of the ITC block's words: register values, samples, transaction words, event codes. -/

namespace Sys2Proof

/-- A 32-bit register value (R8). -/
abbrev Word := BitVec 32

/-- A 16-bit sample (R7 `SAMPLE_W`, D22). -/
abbrev Sample := BitVec 16

/-- The 41-bit transaction word TXN41 (R90). -/
abbrev Txn := BitVec 41

/-- The 4-bit event code EVT4 (R99). -/
abbrev EvtCode := BitVec 4

/-- One byte, of the host's sample stream and of a bus word (R63, R291). -/
abbrev Byte := BitVec 8

end Sys2Proof
end

