-- ==== Sys2Proof/Config.lean ====
section
/-! DEFINITION. What is fixed for one instance of the block (R7, R41): the parameters, the block's own values
for those the spec values, and the free values: opaque constants without a body for those it leaves OPEN. -/

namespace Sys2Proof

/-- The parameters of one instance of the block (R7). None is state and no transition writes one (R41);
a state carries them so that one step function serves every instance (log 1). -/
structure Params where
  /-- SYSCLK_HZ, the trigger clock rate. -/
  sysclkHz : Nat
  /-- OVERHEAD, `fixed_overhead_correction` in clock cycles. -/
  overhead : Nat
  /-- MIN_CPT, the smallest legal `cycles_per_tick`. -/
  minCpt : Nat
  /-- RB_N, the ring buffer's capacity. -/
  rbN : Nat
  /-- PERM, the output line of each input bit (R121). -/
  perm : Vector (Fin 32) 8
  /-- SINE16, the 16-point table (R125). -/
  sine16 : Vector (BitVec 8) 16
  /-- The CPT values for which HANDLER_FITS is false (log 3). -/
  handlerMisfits : List Word
  /-- ITC_BASE, the bus address of the register window (R60). -/
  itcBase : Nat
  deriving DecidableEq, Repr

namespace Config

/-- TRIG_W: the trigger counter is 32 bits wide (R7, D28). -/
def trigW : Nat := 32

/-- OUT_W: the output-line space is 32 bits wide (R7, D23). -/
def outW : Nat := 32

/-- EXC_MULT: ticks per waveform cycle in excitation (R7). -/
def excMult : Nat := 16

/-- The size of the register window in bytes (R60). -/
def windowBytes : Nat := 64

/-- FREE: SYSCLK_HZ less one, so that SYSCLK_HZ ≥ 1 by construction (D26, log 2). -/
opaque sysclkHzLessOne : Nat

/-- FREE: OVERHEAD (D27, R149, log 2). -/
opaque overhead : Nat

/-- FREE: a permutation of the 32 output lines; its first 8 values are PERM, so PERM is injective by
construction (D24, R121, log 2). -/
opaque linePerm : Equiv.Perm (Fin 32)

/-- FREE: SINE16 (D25, R125, log 2). -/
opaque sine16 : Vector (BitVec 8) 16

/-- FREE: the CPT values for which the handler does not fit (D34, log 2, log 3). -/
opaque handlerMisfits : List Word

/-- FREE: ITC_BASE divided by 64, so that ITC_BASE is 64-byte aligned by construction (D2, log 2). -/
opaque itcBasePage : Nat

/-- FREE: the k-th sample the input oracle gives to a TICK that the block takes of its own accord (D22, log 7). -/
opaque inputDraw : Nat → Sample

/-- FREE: what slot i of RB_MEM holds after the k-th RESET until a push writes it (R31, R350, I11, log 8). -/
opaque rbMemDraw : Nat → Nat → Sample

/-- FREE, host side: the excitation frequency of EXPERIMENT (R295, D41). -/
opaque excFreqHz : Word

/-- FREE, host side: the acquisition rate of EXPERIMENT (R295, D41). -/
opaque acqRateHz : Word

/-- FREE, host side: the command parser PARSE, a pulse and a read duration in milliseconds (R296, I22). -/
opaque parse : String → Option (Word × Word)

/-- FREE, host side: the text of the error message for a malformed command (R296, I22, log 21). -/
opaque errorMessage : String → String

/-- RB_N of this block (R7, D19). -/
def rbN : Nat := 256

/-- MIN_CPT of this block (R7, D29). -/
def minCpt : Nat := 1

/-- The block itself: the spec's values where R7 gives one, the free constants where it says OPEN. -/
def block : Params where
  sysclkHz := sysclkHzLessOne + 1
  overhead := overhead
  minCpt := minCpt
  rbN := rbN
  perm := Vector.ofFn fun j => linePerm (Fin.castLE (by decide) j)
  sine16 := sine16
  handlerMisfits := handlerMisfits
  itcBase := windowBytes * itcBasePage

end Config
end Sys2Proof
end

