-- ==== Sys2Proof/Syntax.lean ====
section
/-! DEFINITION. The operations of the ITC block, one constructor for each row of spec/opcode_table.json, and the
labels of a schedule: the forms in which an operation reaches the block. -/

namespace Sys2Proof

/-- The 37 operations. The bus operations are R93's, the three events R99's. Operands are the fields of
the row that the operation records, uses or ignores by rule; a read ignores DATA and carries none (R90). -/
inductive Instr where
  /-- BUSERR_SIZE8, an 8-bit access (R285). -/
  | buserrSize8 (dir : BitVec 1) (off : BitVec 6) (data : Word)
  /-- BUSERR_SIZE16, a 16-bit access (R285). -/
  | buserrSize16 (dir : BitVec 1) (off : BitVec 6) (data : Word)
  /-- BUSERR_SIZE_RSVD, the reserved size code (R285). -/
  | buserrSizeRsvd (dir : BitVec 1) (off : BitVec 6) (data : Word)
  /-- BUSERR_MISALIGNED_1, OFF[1:0] = 1; `slot` is OFF[5:2] (R285). -/
  | buserrMisaligned1 (dir : BitVec 1) (slot : BitVec 4) (data : Word)
  /-- BUSERR_MISALIGNED_2, OFF[1:0] = 2 (R285). -/
  | buserrMisaligned2 (dir : BitVec 1) (slot : BitVec 4) (data : Word)
  /-- BUSERR_MISALIGNED_3, OFF[1:0] = 3 (R285). -/
  | buserrMisaligned3 (dir : BitVec 1) (slot : BitVec 4) (data : Word)
  /-- BEGIN_EXC, a write of 1 to CMD (R201). -/
  | beginExc
  /-- BEGIN_ACQ, a write of 2 to CMD (R202). -/
  | beginAcq
  /-- CMD_ILLEGAL, a write to CMD of any other value (R206). -/
  | cmdIllegal (data : Word)
  /-- RD_CMD (R261). -/
  | rdCmd
  /-- RD_ARG_FREQ (R263). -/
  | rdArgFreq
  /-- RD_ARG_DUR (R265). -/
  | rdArgDur
  /-- RD_STATUS (R266). -/
  | rdStatus
  /-- RD_CPT (R267). -/
  | rdCpt
  /-- RD_TT (R268). -/
  | rdTt
  /-- RD_TICK_COUNT (R269). -/
  | rdTickCount
  /-- RD_RB_WIDX (R270). -/
  | rdRbWidx
  /-- RD_RB_RIDX (R271). -/
  | rdRbRidx
  /-- RD_RB_DATA, the pop (R233). -/
  | rdRbData
  /-- RD_OVR_COUNT (R272). -/
  | rdOvrCount
  /-- RD_OUT_CODE (R273). -/
  | rdOutCode
  /-- WR_ARG_FREQ (R262). -/
  | wrArgFreq (data : Word)
  /-- WR_ARG_DUR (R264). -/
  | wrArgDur (data : Word)
  /-- WR_STATUS, ignored (R274). -/
  | wrStatus (data : Word)
  /-- WR_CPT, ignored (R275). -/
  | wrCpt (data : Word)
  /-- WR_TT, ignored (R276). -/
  | wrTt (data : Word)
  /-- WR_TICK_COUNT, ignored (R277). -/
  | wrTickCount (data : Word)
  /-- WR_RB_WIDX, ignored (R278). -/
  | wrRbWidx (data : Word)
  /-- WR_RB_RIDX, ignored (R279). -/
  | wrRbRidx (data : Word)
  /-- WR_RB_DATA, ignored (R280). -/
  | wrRbData (data : Word)
  /-- WR_OVR_COUNT, ignored (R281). -/
  | wrOvrCount (data : Word)
  /-- WR_OUT_CODE, ignored (R282). -/
  | wrOutCode (data : Word)
  /-- RD_RSVD, a read of 0x30, 0x34, 0x38 or 0x3C; `k` is OFF[3:2] (R283). -/
  | rdRsvd (k : BitVec 2)
  /-- WR_RSVD, a write there, ignored (R284). -/
  | wrRsvd (k : BitVec 2) (data : Word)
  /-- RESET, the environment's event (R350). -/
  | reset
  /-- FIRE, the trigger's expiry (R170). -/
  | fire
  /-- TICK(s), one servicing of a fire; `x` is the input-oracle draw s (R172). -/
  | tick (x : Sample)
  deriving DecidableEq, Repr

/-- One entry of the total order of transitions (R69), as it is handed to the block. -/
inductive Label where
  /-- A bus transaction inside the window, as its TXN41 word (R90). -/
  | txn (w : Txn)
  /-- A bus access by its bus address (R61): DIR, SIZE and DATA as in TXN41. -/
  | access (addr : Nat) (dir : BitVec 1) (size : BitVec 2) (data : Word)
  /-- An event by its code, with TICK's argument (R99). -/
  | evt (code : EvtCode) (x : Sample)
  deriving DecidableEq, Repr

end Sys2Proof
end

