-- ==== Sys2Proof/WellFormed.lean ====
section
/-! DEFINITION. Which terms of the syntax stand for an operation of the block, and which parameters for an
instance of it. -/

namespace Sys2Proof

/-- CMD_ILLEGAL is a write of neither 1 nor 2 (R98, R206); every other field takes every value of its width. -/
def Instr.wf : Instr → Bool
  | .cmdIllegal data => data != 1#32 && data != 2#32
  | .buserrSize8 _ _ _ | .buserrSize16 _ _ _ | .buserrSizeRsvd _ _ _ => true
  | .buserrMisaligned1 _ _ _ | .buserrMisaligned2 _ _ _ | .buserrMisaligned3 _ _ _ => true
  | .beginExc | .beginAcq => true
  | .rdCmd | .rdArgFreq | .rdArgDur | .rdStatus | .rdCpt | .rdTt | .rdTickCount | .rdRbWidx | .rdRbRidx
  | .rdRbData | .rdOvrCount | .rdOutCode | .rdRsvd _ => true
  | .wrArgFreq _ | .wrArgDur _ | .wrStatus _ | .wrCpt _ | .wrTt _ | .wrTickCount _ | .wrRbWidx _ | .wrRbRidx _
  | .wrRbData _ | .wrOvrCount _ | .wrOutCode _ | .wrRsvd _ _ => true
  | .reset | .fire | .tick _ => true

/-- A well-formed parameter instance (R7, R121): SYSCLK_HZ ≥ 1, MIN_CPT ≥ 1, RB_N ≥ 2 and an index that fits
the 32-bit register that reads it (log 18), PERM injective, ITC_BASE 64-byte aligned. -/
def Params.wf (p : Params) : Bool :=
  decide (1 ≤ p.sysclkHz) && decide (1 ≤ p.minCpt) && decide (2 ≤ p.rbN) && decide (p.rbN ≤ 2 ^ 32) &&
    decide p.perm.toList.Nodup && decide (p.itcBase % 64 = 0)

end Sys2Proof
end

