-- ==== Sys2Proof/Decode.lean ====
section
/-! DEFINITION. From words to operations and back: the decode of a TXN41 word and of an EVT4 code (R90-R93,
R98, R99), the words an operation is written as, and the two forms in which the opcode table's words are
handed over. The decode depends on the word alone (R103). -/

namespace Sys2Proof

/-! ## The fields of TXN41 (R90) -/

/-- DIR, bit 40: 1 = write. -/
def Txn.dir (w : Txn) : BitVec 1 := w.extractLsb' 40 1

/-- SIZE, bits 39:38. -/
def Txn.size (w : Txn) : BitVec 2 := w.extractLsb' 38 2

/-- OFF, bits 37:32. -/
def Txn.off (w : Txn) : BitVec 6 := w.extractLsb' 32 6

/-- DATA, bits 31:0. -/
def Txn.data (w : Txn) : Word := w.extractLsb' 0 32

/-- A TXN41 word from its four fields. -/
def Txn.make (dir : BitVec 1) (size : BitVec 2) (off : BitVec 6) (data : Word) : Txn :=
  dir ++ size ++ off ++ data

/-- The size code of a 32-bit access, the only legal one (R62, R90). -/
def size32 : BitVec 2 := 0b10#2

/-- OFF[5:2], the word slot. -/
def offSlot (off : BitVec 6) : BitVec 4 := off.extractLsb' 2 4

/-- OFF[1:0], zero for an aligned access. -/
def offLow (off : BitVec 6) : BitVec 2 := off.extractLsb' 0 2

/-! ## Decoding -/

/-- R93 step 3, R98: a CMD write by its whole 32-bit DATA. -/
def decodeCommand (data : Word) : Instr :=
  if data = 1#32 then .beginExc
  else if data = 2#32 then .beginAcq
  else .cmdIllegal data

/-- R93's table, column DIR = 1, by OFF[5:2]. -/
def decodeWrite (slot : BitVec 4) (data : Word) : Instr :=
  match slot.toNat with
  | 0 => decodeCommand data
  | 1 => .wrArgFreq data
  | 2 => .wrArgDur data
  | 3 => .wrStatus data
  | 4 => .wrCpt data
  | 5 => .wrTt data
  | 6 => .wrTickCount data
  | 7 => .wrRbWidx data
  | 8 => .wrRbRidx data
  | 9 => .wrRbData data
  | 10 => .wrOvrCount data
  | 11 => .wrOutCode data
  | _ => .wrRsvd (slot.extractLsb' 0 2) data

/-- R93's table, column DIR = 0, by OFF[5:2]; DATA is ignored (R90). -/
def decodeRead (slot : BitVec 4) : Instr :=
  match slot.toNat with
  | 0 => .rdCmd
  | 1 => .rdArgFreq
  | 2 => .rdArgDur
  | 3 => .rdStatus
  | 4 => .rdCpt
  | 5 => .rdTt
  | 6 => .rdTickCount
  | 7 => .rdRbWidx
  | 8 => .rdRbRidx
  | 9 => .rdRbData
  | 10 => .rdOvrCount
  | 11 => .rdOutCode
  | _ => .rdRsvd (slot.extractLsb' 0 2)

/-- R93: the one operation of a TXN41 word; the checks in their order, size, alignment, then the table. -/
def decodeTxn (w : Txn) : Instr :=
  if w.size = 0b00#2 then .buserrSize8 w.dir w.off w.data
  else if w.size = 0b01#2 then .buserrSize16 w.dir w.off w.data
  else if w.size = 0b11#2 then .buserrSizeRsvd w.dir w.off w.data
  else if offLow w.off = 1#2 then .buserrMisaligned1 w.dir (offSlot w.off) w.data
  else if offLow w.off = 2#2 then .buserrMisaligned2 w.dir (offSlot w.off) w.data
  else if offLow w.off = 3#2 then .buserrMisaligned3 w.dir (offSlot w.off) w.data
  else if w.dir = 1#1 then decodeWrite (offSlot w.off) w.data
  else decodeRead (offSlot w.off)

/-- R99: the event of a code; codes 3 to 15 are never produced and name none (log 14). -/
def decodeEvt (code : EvtCode) (x : Sample) : Option Instr :=
  match code.toNat with
  | 0 => some .reset
  | 1 => some .fire
  | 2 => some (.tick x)
  | _ => none

/-- R61: the transaction word of a bus access at address `addr`, if the window at `base` decodes it. -/
def busTxn (base addr : Nat) (dir : BitVec 1) (size : BitVec 2) (data : Word) : Option Txn :=
  if base ≤ addr ∧ addr < base + Config.windowBytes then
    some (Txn.make dir size (BitVec.ofNat 6 (addr - base)) data)
  else none

/-- What a label stands for. -/
inductive Decoded where
  /-- One operation of the block. -/
  | instr (i : Instr)
  /-- A bus access outside the window: it does not reach the block (R61). -/
  | outside
  /-- An event code that is never produced (R99, log 14). -/
  | badEvent (code : EvtCode)
  deriving DecidableEq, Repr

/-- The decode of a label, total; `base` is ITC_BASE, which only a bus access by address reads. -/
def decodeLabel (base : Nat) : Label → Decoded
  | .txn w => .instr (decodeTxn w)
  | .access addr dir size data =>
    match busTxn base addr dir size data with
    | some w => .instr (decodeTxn w)
    | none => .outside
  | .evt code x =>
    match decodeEvt code x with
    | some i => .instr i
    | none => .badEvent code

/-! ## Encoding -/

/-- A 32-bit read at an offset, with DATA written as 0 (R90). -/
def encodeRead (off : BitVec 6) : Label := .txn (Txn.make 0#1 size32 off 0#32)

/-- A 32-bit write at an offset. -/
def encodeWrite (off : BitVec 6) (data : Word) : Label := .txn (Txn.make 1#1 size32 off data)

/-- The label of an operation, from the encodings of R201, R202, R206, R233, R261-R285 and R99. -/
def encode : Instr → Label
  | .buserrSize8 dir off data => .txn (Txn.make dir 0b00#2 off data)
  | .buserrSize16 dir off data => .txn (Txn.make dir 0b01#2 off data)
  | .buserrSizeRsvd dir off data => .txn (Txn.make dir 0b11#2 off data)
  | .buserrMisaligned1 dir slot data => .txn (Txn.make dir size32 (slot ++ 1#2) data)
  | .buserrMisaligned2 dir slot data => .txn (Txn.make dir size32 (slot ++ 2#2) data)
  | .buserrMisaligned3 dir slot data => .txn (Txn.make dir size32 (slot ++ 3#2) data)
  | .beginExc => encodeWrite 0x00#6 1#32
  | .beginAcq => encodeWrite 0x00#6 2#32
  | .cmdIllegal data => encodeWrite 0x00#6 data
  | .rdCmd => encodeRead 0x00#6
  | .rdArgFreq => encodeRead 0x04#6
  | .rdArgDur => encodeRead 0x08#6
  | .rdStatus => encodeRead 0x0C#6
  | .rdCpt => encodeRead 0x10#6
  | .rdTt => encodeRead 0x14#6
  | .rdTickCount => encodeRead 0x18#6
  | .rdRbWidx => encodeRead 0x1C#6
  | .rdRbRidx => encodeRead 0x20#6
  | .rdRbData => encodeRead 0x24#6
  | .rdOvrCount => encodeRead 0x28#6
  | .rdOutCode => encodeRead 0x2C#6
  | .wrArgFreq data => encodeWrite 0x04#6 data
  | .wrArgDur data => encodeWrite 0x08#6 data
  | .wrStatus data => encodeWrite 0x0C#6 data
  | .wrCpt data => encodeWrite 0x10#6 data
  | .wrTt data => encodeWrite 0x14#6 data
  | .wrTickCount data => encodeWrite 0x18#6 data
  | .wrRbWidx data => encodeWrite 0x1C#6 data
  | .wrRbRidx data => encodeWrite 0x20#6 data
  | .wrRbData data => encodeWrite 0x24#6 data
  | .wrOvrCount data => encodeWrite 0x28#6 data
  | .wrOutCode data => encodeWrite 0x2C#6 data
  | .rdRsvd k => encodeRead (0b11#2 ++ k ++ 0b00#2)
  | .wrRsvd k data => encodeWrite (0b11#2 ++ k ++ 0b00#2) data
  | .reset => .evt 0x0#4 0#16
  | .fire => .evt 0x1#4 0#16
  | .tick x => .evt 0x2#4 x

/-! ## The opcode table as data -/

/-- One TXN41 row of the opcode table: a word is of the row if it agrees with the pattern under the mask. -/
structure TxnRow where
  /-- The row's mnemonic. -/
  mnemonic : String
  /-- The row's match. -/
  pattern : Txn
  /-- The row's mask. -/
  mask : Txn
  deriving DecidableEq, Repr

/-- The word is of the row. -/
def TxnRow.covers (r : TxnRow) (w : Txn) : Bool := w &&& r.mask == r.pattern

/-- The bus errors, checked first (R93 steps 1 and 2). -/
def busErrorRows : List TxnRow :=
  [⟨"BUSERR_SIZE8", 0x00000000000#41, 0x0C000000000#41⟩,
   ⟨"BUSERR_SIZE16", 0x04000000000#41, 0x0C000000000#41⟩,
   ⟨"BUSERR_SIZE_RSVD", 0x0C000000000#41, 0x0C000000000#41⟩,
   ⟨"BUSERR_MISALIGNED_1", 0x08100000000#41, 0x0C300000000#41⟩,
   ⟨"BUSERR_MISALIGNED_2", 0x08200000000#41, 0x0C300000000#41⟩,
   ⟨"BUSERR_MISALIGNED_3", 0x08300000000#41, 0x0C300000000#41⟩]

/-- The CMD writes (R93 step 3). -/
def commandRows : List TxnRow :=
  [⟨"BEGIN_EXC", 0x18000000001#41, 0x1FFFFFFFFFF#41⟩,
   ⟨"BEGIN_ACQ", 0x18000000002#41, 0x1FFFFFFFFFF#41⟩,
   ⟨"CMD_ILLEGAL", 0x18000000000#41, 0x1FF00000000#41⟩]

/-- The reads of named registers. -/
def readRows : List TxnRow :=
  [⟨"RD_CMD", 0x08000000000#41, 0x1FF00000000#41⟩,
   ⟨"RD_ARG_FREQ", 0x08400000000#41, 0x1FF00000000#41⟩,
   ⟨"RD_ARG_DUR", 0x08800000000#41, 0x1FF00000000#41⟩,
   ⟨"RD_STATUS", 0x08C00000000#41, 0x1FF00000000#41⟩,
   ⟨"RD_CPT", 0x09000000000#41, 0x1FF00000000#41⟩,
   ⟨"RD_TT", 0x09400000000#41, 0x1FF00000000#41⟩,
   ⟨"RD_TICK_COUNT", 0x09800000000#41, 0x1FF00000000#41⟩,
   ⟨"RD_RB_WIDX", 0x09C00000000#41, 0x1FF00000000#41⟩,
   ⟨"RD_RB_RIDX", 0x0A000000000#41, 0x1FF00000000#41⟩,
   ⟨"RD_RB_DATA", 0x0A400000000#41, 0x1FF00000000#41⟩,
   ⟨"RD_OVR_COUNT", 0x0A800000000#41, 0x1FF00000000#41⟩,
   ⟨"RD_OUT_CODE", 0x0AC00000000#41, 0x1FF00000000#41⟩]

/-- The writes of named registers. -/
def writeRows : List TxnRow :=
  [⟨"WR_ARG_FREQ", 0x18400000000#41, 0x1FF00000000#41⟩,
   ⟨"WR_ARG_DUR", 0x18800000000#41, 0x1FF00000000#41⟩,
   ⟨"WR_STATUS", 0x18C00000000#41, 0x1FF00000000#41⟩,
   ⟨"WR_CPT", 0x19000000000#41, 0x1FF00000000#41⟩,
   ⟨"WR_TT", 0x19400000000#41, 0x1FF00000000#41⟩,
   ⟨"WR_TICK_COUNT", 0x19800000000#41, 0x1FF00000000#41⟩,
   ⟨"WR_RB_WIDX", 0x19C00000000#41, 0x1FF00000000#41⟩,
   ⟨"WR_RB_RIDX", 0x1A000000000#41, 0x1FF00000000#41⟩,
   ⟨"WR_RB_DATA", 0x1A400000000#41, 0x1FF00000000#41⟩,
   ⟨"WR_OVR_COUNT", 0x1A800000000#41, 0x1FF00000000#41⟩,
   ⟨"WR_OUT_CODE", 0x1AC00000000#41, 0x1FF00000000#41⟩]

/-- The reserved slots. -/
def reservedRows : List TxnRow :=
  [⟨"RD_RSVD", 0x0B000000000#41, 0x1F300000000#41⟩,
   ⟨"WR_RSVD", 0x1B000000000#41, 0x1F300000000#41⟩]

/-- The TXN41 rows in the table's order, which is first-match order (R93). -/
def txnTable : List TxnRow := busErrorRows ++ commandRows ++ readRows ++ writeRows ++ reservedRows

/-- The EVT4 rows (R99). -/
def evtTable : List (String × EvtCode) := [("RESET", 0x0#4), ("FIRE", 0x1#4), ("TICK", 0x2#4)]

/-- The mnemonic of an operation's row. -/
def Instr.mnemonic : Instr → String
  | .buserrSize8 _ _ _ => "BUSERR_SIZE8"
  | .buserrSize16 _ _ _ => "BUSERR_SIZE16"
  | .buserrSizeRsvd _ _ _ => "BUSERR_SIZE_RSVD"
  | .buserrMisaligned1 _ _ _ => "BUSERR_MISALIGNED_1"
  | .buserrMisaligned2 _ _ _ => "BUSERR_MISALIGNED_2"
  | .buserrMisaligned3 _ _ _ => "BUSERR_MISALIGNED_3"
  | .beginExc => "BEGIN_EXC"
  | .beginAcq => "BEGIN_ACQ"
  | .cmdIllegal _ => "CMD_ILLEGAL"
  | .rdCmd => "RD_CMD"
  | .rdArgFreq => "RD_ARG_FREQ"
  | .rdArgDur => "RD_ARG_DUR"
  | .rdStatus => "RD_STATUS"
  | .rdCpt => "RD_CPT"
  | .rdTt => "RD_TT"
  | .rdTickCount => "RD_TICK_COUNT"
  | .rdRbWidx => "RD_RB_WIDX"
  | .rdRbRidx => "RD_RB_RIDX"
  | .rdRbData => "RD_RB_DATA"
  | .rdOvrCount => "RD_OVR_COUNT"
  | .rdOutCode => "RD_OUT_CODE"
  | .wrArgFreq _ => "WR_ARG_FREQ"
  | .wrArgDur _ => "WR_ARG_DUR"
  | .wrStatus _ => "WR_STATUS"
  | .wrCpt _ => "WR_CPT"
  | .wrTt _ => "WR_TT"
  | .wrTickCount _ => "WR_TICK_COUNT"
  | .wrRbWidx _ => "WR_RB_WIDX"
  | .wrRbRidx _ => "WR_RB_RIDX"
  | .wrRbData _ => "WR_RB_DATA"
  | .wrOvrCount _ => "WR_OVR_COUNT"
  | .wrOutCode _ => "WR_OUT_CODE"
  | .rdRsvd _ => "RD_RSVD"
  | .wrRsvd _ _ => "WR_RSVD"
  | .reset => "RESET"
  | .fire => "FIRE"
  | .tick _ => "TICK"

/-! ## The opcode table's words -/

/-- The label of a word of the opcode table (log 6). A word of at most 24 bits is an event: EVT4 in bits 3:0,
TICK's argument in bits 23:8, bits 7:4 zero. A longer one is a TXN41 word in bits 40:0. -/
def labelOfWord (nbits w : Nat) : Option Label :=
  if nbits ≤ 24 then
    if w / 16 % 16 = 0 ∧ w < 2 ^ 24 then some (.evt (BitVec.ofNat 4 w) (BitVec.ofNat 16 (w / 256))) else none
  else if w < 2 ^ 41 then some (.txn (BitVec.ofNat 41 w))
  else none

/-- The operation the decoder reads from a word of the opcode table, none where it refuses. -/
def decodeTableWord (nbits w : Nat) : Option Instr :=
  match labelOfWord nbits w with
  | some (.txn t) => some (decodeTxn t)
  | some (.evt code x) => decodeEvt code x
  | some (.access _ _ _ _) => none
  | none => none

end Sys2Proof
end

