-- ==== Sys2Proof/Machine/State.lean ====
section
/-! DEFINITION. The state of the ITC block as plain data (10_state.md), its value at reset, and the reasons a
step can stop. -/

namespace Sys2Proof.Machine

/-- MODE, one bit (R27). -/
inductive Mode where
  /-- 0, Excitation. -/
  | exc
  /-- 1, Acquisition. -/
  | acq
  deriving DecidableEq, Repr

/-- STATUS.RESULT, the outcome of the last CMD write (R96). -/
inductive CmdResult where
  /-- 0 OK. -/
  | ok
  /-- 1 BUSY. -/
  | busy
  /-- 2 CFG_ERR. -/
  | cfgErr
  /-- 3 ILLEGAL_CMD. -/
  | illegalCmd
  deriving DecidableEq, Repr

/-- STATUS.CFG_CAUSE (R97); the codes 5 to 7 are never produced. -/
inductive CfgCause where
  /-- 0 NONE. -/
  | none
  /-- 1 FREQ_ZERO. -/
  | freqZero
  /-- 2 CPT_LOW. -/
  | cptLow
  /-- 3 CPT_HIGH. -/
  | cptHigh
  /-- 4 TT_HIGH. -/
  | ttHigh
  deriving DecidableEq, Repr

/-- The two kinds of fault of the spec's fault set (R39). -/
inductive FaultKind where
  /-- BusError (R315). -/
  | busError
  /-- TickOverrun (R316). -/
  | tickOverrun
  deriving DecidableEq, Repr

/-- A fault with its recorded value. -/
inductive FaultRec where
  /-- BusError with the triple of the access (R315). -/
  | busError (dir : BitVec 1) (size : BitVec 2) (off : BitVec 6)
  /-- TickOverrun with CPT (R316). -/
  | tickOverrun (cpt : Word)
  deriving DecidableEq, Repr

/-- What the transition just taken gave, `respond` and `raise` of R10 (log 10). -/
inductive Response where
  /-- No bus access was answered: an event, or nothing yet. -/
  | none
  /-- A write's OK acknowledgement, no data (R260). -/
  | ack
  /-- The 32-bit result of a read. -/
  | data (v : Word)
  /-- The transition's result is a fault; a bus master gets an error response and no data (R10, R315). -/
  | fault (f : FaultRec)
  deriving DecidableEq, Repr

/-- RB_MEM: the slots written since RESET, as (slot, sample) pairs (R31, R75). A slot that is not listed holds
no written value. Canonical: slots strictly rising (log 8, log 9). -/
abbrev RbMem := List (Nat × Sample)

/-- The state of the block. -/
structure State where
  /-- The instance's parameters; no transition writes them (R41, log 1). -/
  params : Params
  /-- ARG_FREQ (R22). -/
  argFreq : Word
  /-- ARG_DUR (R23). -/
  argDur : Word
  /-- CPT (R24). -/
  cpt : Word
  /-- TT (R25). -/
  tt : Word
  /-- TICK_COUNT (R26). -/
  tickCount : Word
  /-- MODE (R27). -/
  mode : Mode
  /-- COMPLETED (R28). -/
  completed : Bool
  /-- STATUS.RESULT (R29). -/
  result : CmdResult
  /-- STATUS.CFG_CAUSE (R29). -/
  cfgCause : CfgCause
  /-- TRIG_ARMED, hidden (R30). -/
  trigArmed : Bool
  /-- TRIG_LOAD, hidden (R30). -/
  trigLoad : Word
  /-- TRIG_PENDING, hidden (R30). -/
  trigPending : Bool
  /-- RB_MEM (R31). -/
  rbMem : RbMem
  /-- RB_WIDX, in [0, RB_N) (R32). -/
  rbWidx : Nat
  /-- RB_RIDX, in [0, RB_N) (R33). -/
  rbRidx : Nat
  /-- OVR_COUNT (R34). -/
  ovrCount : Word
  /-- OUT_CODE (R35). -/
  outCode : Word
  /-- FAULTS, oldest first, each with its recorded value (R39, log 12). -/
  faults : List FaultRec
  /-- The MODEL's own: what the last transition gave (log 10). -/
  response : Response
  /-- The MODEL's own: the labels still to be taken, first first (R69, log 4). -/
  schedule : List Label
  /-- The MODEL's own: how many free input draws were used (log 7). -/
  inputDraws : Nat
  /-- The MODEL's own: which draw of RB_MEM's contents holds (log 8). -/
  rbDraws : Nat
  deriving DecidableEq, Repr

/-- The block with parameters `p` right after reset (R350), with no fault recorded and nothing scheduled
(log 22). -/
def State.resetWith (p : Params) : State where
  params := p
  argFreq := 0#32
  argDur := 0#32
  cpt := 0#32
  tt := 0#32
  tickCount := 0#32
  mode := .exc
  completed := true
  result := .ok
  cfgCause := .none
  trigArmed := false
  trigLoad := 0#32
  trigPending := false
  rbMem := []
  rbWidx := 0
  rbRidx := 0
  ovrCount := 0#32
  outCode := 0#32
  faults := []
  response := .none
  schedule := []
  inputDraws := 0
  rbDraws := 0

/-- The block right after reset. -/
def State.reset : State := State.resetWith Config.block

/-- Why a step stops with a fault. -/
inductive Fault where
  /-- Raised by RB_PUSH and by RD_RB_DATA when their index is not a slot of RB_MEM, which "is always in [0, RB_N)"
  (R75). Safe: it stops where the spec has no slot, and no state that meets the ring invariant reaches it (log 16). -/
  | slotOutOfRange (slot : Nat)
  deriving DecidableEq, Repr

/-- Why a step is refused. -/
inductive Refusal where
  /-- An instruction without a meaning in this model; no arm raises it. Safe. -/
  | notModelled (mnemonic : String)
  /-- FIRE while TRIG_ARMED = 0: the event is not enabled, there is no such transition (R170). Safe (log 13). -/
  | fireNotEnabled
  /-- TICK while TRIG_PENDING = 0: the event is not enabled (R172). Safe (log 13). -/
  | tickNotEnabled
  /-- The schedule holds an event code that is never produced (R99, I15). Safe (log 14). -/
  | eventCodeNeverProduced (code : EvtCode)
  /-- Nothing is scheduled and neither FIRE nor TICK is enabled: the block makes no transition of its own
  (R364, D44). Safe (log 5). -/
  | quiescent
  /-- The parameters are ill-formed; raised at configuration only (R121, I9). Safe (log 18). -/
  | illFormedParams
  deriving DecidableEq, Repr

end Sys2Proof.Machine
end

