-- ==== Sys2Proof/Machine/Ops.lean ====
section
/-! DEFINITION. The named operations over the state: responses, faults, the trigger's primitives, the slots of
RB_MEM, the output lines, reset and configuration. -/

namespace Sys2Proof.Machine

/-! ## Responses and faults (R10, R260, R315-R317) -/

/-- `respond(v)` and a write's acknowledgement: what the bus master gets (R10, R260). -/
def State.respond (s : State) (r : Response) : State := { s with response := r }

/-- The kind of a recorded fault. -/
def FaultRec.kind : FaultRec → FaultKind
  | .busError _ _ _ => .busError
  | .tickOverrun _ => .tickOverrun

/-- `raise F(info)`: TAKING A FAULT. FAULTS gains it, the transition's result is the fault, and nothing else
changes (R10, R315, R316). No trap is entered, no state saved (R322). -/
def State.raise (s : State) (f : FaultRec) : State :=
  { s with faults := s.faults ++ [f], response := .fault f }

/-- FAULTS as the set of kinds (R39). -/
def State.faultSet (s : State) : List FaultKind := (s.faults.map FaultRec.kind).dedup

/-! ## The trigger (R171) -/

/-- `arm(c)` (R171). -/
def State.arm (s : State) (c : Word) : State := { s with trigArmed := true, trigLoad := c }

/-- `acknowledge()`, which ends the service of the trigger interrupt (R171, R176, R323). -/
def State.acknowledge (s : State) : State := { s with trigPending := false }

/-- The expiry of the one-shot trigger (R170). -/
def State.expire (s : State) : State := { s with trigArmed := false, trigPending := true }

/-- HANDLER_FITS(c): a TICK completes within c cycles (R7, D34, log 3). -/
def handlerFits (p : Params) (c : Word) : Bool := !p.handlerMisfits.contains c

/-! ## The slots of RB_MEM (R75) -/

/-- The value written to slot `i`, if one was since RESET. -/
def RbMem.read? : RbMem → Nat → Option Sample
  | [], _ => none
  | (j, v) :: m, i => if j = i then some v else RbMem.read? m i

/-- Slot `i` becomes `v`; the list stays strictly rising. -/
def RbMem.write : RbMem → Nat → Sample → RbMem
  | [], i, v => [(i, v)]
  | (j, u) :: m, i, v =>
    if i < j then (i, v) :: (j, u) :: m
    else if i = j then (i, v) :: m
    else (j, u) :: RbMem.write m i v

/-- The canonical form: slots strictly rising. -/
abbrev RbMem.wf (m : RbMem) : Prop := (m.map Prod.fst).Pairwise (· < ·)

/-- What slot `i` holds: the value last written, or a free value if none was since RESET (R31, R75, log 8). -/
def State.slot (s : State) (i : Nat) : Sample :=
  (s.rbMem.read? i).getD (Config.rbMemDraw s.rbDraws i)

/-- `MemRead(RB_MEM, i)`; there is no slot outside [0, RB_N) (R75, log 16). -/
def State.memRead (s : State) (i : Nat) : Option Sample :=
  if i < s.params.rbN then some (s.slot i) else none

/-- `MemWrite(RB_MEM, i, v)`; there is no slot outside [0, RB_N) (R75, log 16). -/
def State.memWrite (s : State) (i : Nat) (v : Sample) : Option State :=
  if i < s.params.rbN then some { s with rbMem := s.rbMem.write i v } else none

/-- The slot after `i`, mod RB_N (R231, R233). -/
def nextSlot (p : Params) (i : Nat) : Nat := (i + 1) % p.rbN

/-! ## Output lines (R35, R174) -/

/-- `OutputWrite(code)` with the copy in OUT_CODE (R174). -/
def State.outputWrite (s : State) (code : Word) : State := { s with outCode := code }

/-- The level the block drives on an output line; it drives only the lines of PERM (R35, D23). -/
def State.outputLine (s : State) (line : Fin 32) : Option Bool :=
  if line ∈ s.params.perm.toList then some (s.outCode.getLsbD line) else none

/-! ## Bus words (R63) -/

/-- Byte lane `k` of a 32-bit bus word, little-endian: bits [8k+7:8k] (R63). -/
def byteLane (v : Word) (k : Fin 4) : Byte := v.extractLsb' (8 * k) 8

/-- The 32-bit bus word of four byte lanes, lane 0 first (R63). -/
def wordOfLanes (b0 b1 b2 b3 : Byte) : Word := b3 ++ b2 ++ b1 ++ b0

/-! ## Reset and configuration -/

/-- RESET (R350): every element at its reset value; FAULTS and the parameters stay, RB_MEM is a new draw, and
what is still scheduled stays scheduled. -/
def State.resetBlock (s : State) : State :=
  { State.resetWith s.params with
    faults := s.faults
    schedule := s.schedule
    inputDraws := s.inputDraws
    rbDraws := s.rbDraws + 1 }

/-- An instance with given parameters right after reset; an ill-formed instance is refused (R121, I9, log 18). -/
def State.configure (p : Params) : Except Refusal State :=
  if p.wf then .ok (State.resetWith p) else .error .illFormedParams

end Sys2Proof.Machine
end

