-- ==== Sys2Proof/Machine/Flags.lean ====
section
/-! DEFINITION. The STATUS register: the codes of its fields, the derived AVAIL flag, the word a read returns
(R94), and the outcome a CMD write leaves (R200, R310). -/

namespace Sys2Proof.Machine

/-- One bit of a flag. -/
def bit (b : Bool) : BitVec 1 := BitVec.ofBool b

/-- MODE's bit (R27). -/
def Mode.code : Mode → BitVec 1
  | .exc => 0#1
  | .acq => 1#1

/-- RESULT's code (R96). -/
def CmdResult.code : CmdResult → BitVec 2
  | .ok => 0#2
  | .busy => 1#2
  | .cfgErr => 2#2
  | .illegalCmd => 3#2

/-- CFG_CAUSE's code (R97). -/
def CfgCause.code : CfgCause → BitVec 3
  | .none => 0#3
  | .freqZero => 1#3
  | .cptLow => 2#3
  | .cptHigh => 3#3
  | .ttHigh => 4#3

/-- STATUS.AVAIL: the buffer is not empty; computed at each read, not stored (R38). -/
def State.avail (s : State) : Bool := s.rbWidx != s.rbRidx

/-- The STATUS word: CFG_CAUSE in [10:8], RESULT in [5:4], AVAIL, MODE and COMPLETED in [2:0], else 0 (R94). -/
def State.statusWord (s : State) : Word :=
  0#21 ++ s.cfgCause.code ++ 0#2 ++ s.result.code ++ 0#1 ++ bit s.avail ++ s.mode.code ++ bit s.completed

/-- A CMD write's outcome replaces the last one (R200). -/
def State.setOutcome (s : State) (r : CmdResult) (c : CfgCause) : State :=
  { s with result := r, cfgCause := c }

end Sys2Proof.Machine
end

