-- ==== Sys2Proof/Machine/Operands.lean ====
section
/-! DEFINITION. The operands of the operations: what a register of the window reads as (R66, R92, R94, R95), and the
parameter derivation DERIVE that a BEGIN applies to ARG_FREQ and ARG_DUR (41_parameters.md). -/

namespace Sys2Proof.Machine

/-! ## What a register reads as -/

/-- The registers of the window that a read returns without a side effect (R66). -/
inductive Reg where
  | cmd | argFreq | argDur | status | cpt | tt | tickCount | rbWidx | rbRidx | ovrCount | outCode | rsvd
  deriving DecidableEq, Repr

/-- The 32 bits a register reads as; CMD and the reserved slots read 0, an index is zero-extended (R66). -/
def State.regRead (s : State) : Reg → Word
  | .cmd => 0#32
  | .argFreq => s.argFreq
  | .argDur => s.argDur
  | .status => s.statusWord
  | .cpt => s.cpt
  | .tt => s.tt
  | .tickCount => s.tickCount
  | .rbWidx => BitVec.ofNat 32 s.rbWidx
  | .rbRidx => BitVec.ofNat 32 s.rbRidx
  | .ovrCount => s.ovrCount
  | .outCode => s.outCode
  | .rsvd => 0#32

/-- The RB_DATA word of a popped sample: VALID in bit 31, the sample in [15:0] (R95). -/
def rbDataWord (v : Sample) : Word := 1#1 ++ 0#15 ++ v

/-! ## DERIVE -/

/-- M(mode): the ticks per cycle of the requested frequency (R141). -/
def tickMultiplier : Mode → Nat
  | .exc => Config.excMult
  | .acq => 1

/-- f_eff, unbounded (R141). -/
def effFreq (m : Mode) (freq : Word) : Nat := freq.toNat * tickMultiplier m

/-- cpt_raw: SYSCLK_HZ / f_eff to the nearest integer, ties up (R142); used only with f_eff ≥ 1. -/
def cptRaw (p : Params) (fEff : Nat) : Nat := (2 * p.sysclkHz + fEff) / (2 * fEff)

/-- cpt before validation, which may be zero or negative (R143). -/
def cptOf (p : Params) (fEff : Nat) : Int := (cptRaw p fEff : Int) - p.overhead

/-- tt before validation: dur × f_eff / 1000, truncated (R145). -/
def ttOf (dur : Word) (fEff : Nat) : Nat := dur.toNat * fEff / 1000

/-- The result of DERIVE (R147). -/
inductive Derived where
  /-- The values to latch. -/
  | ok (cpt tt : Word)
  /-- The first check that fails. -/
  | err (cause : CfgCause)
  deriving DecidableEq, Repr

/-- DERIVE(mode, freq, dur): the checks of R146 in their order, then the two values, which then fit 32 bits. -/
def derive (p : Params) (m : Mode) (freq dur : Word) : Derived :=
  let fEff := effFreq m freq
  if freq = 0#32 then .err .freqZero
  else if cptOf p fEff < p.minCpt then .err .cptLow
  else if cptOf p fEff > 2 ^ Config.trigW - 1 then .err .cptHigh
  else if ttOf dur fEff > 2 ^ 32 - 1 then .err .ttHigh
  else .ok (BitVec.ofInt 32 (cptOf p fEff)) (BitVec.ofNat 32 (ttOf dur fEff))

end Sys2Proof.Machine
end

