-- ==== Sys2Proof/Machine/Waveform.lean ====
section
/-! DEFINITION. The Waveform Table and the 16-point table (40_waveform.md): the bit scatter, its inverse, and the
code that an excitation tick drives. -/

namespace Sys2Proof.Machine

/-- WT[i]: bit PERM[j] is 1 for each j with bit j of i 1, every other bit 0 (R120). -/
def wt (perm : Vector (Fin 32) 8) (i : BitVec 8) : Word :=
  (List.finRange 8).foldl (fun acc (j : Fin 8) => if i.getLsbD j then acc ||| (1#32 <<< perm[j].val) else acc) 0#32

/-- The inverse of WT on its entries: the sum of c[PERM[j]] << j (R123). -/
def unscatter (perm : Vector (Fin 32) 8) (c : Word) : BitVec 8 :=
  (List.finRange 8).foldl (fun acc (j : Fin 8) => if c.getLsbD perm[j].val then acc + (1#8 <<< j.val) else acc) 0#8

/-- SINE16[k mod 16] (R127, R128). -/
def sineAt (p : Params) (k : Word) : BitVec 8 :=
  p.sine16[k.toNat % 16]'(Nat.mod_lt _ (by decide))

/-- exc_code(k): the code of the tick whose TICK_COUNT before the increment is k (R127). -/
def excCode (p : Params) (k : Word) : Word := wt p.perm (sineAt p k)

/-- `exc_action()`: the code of the present TICK_COUNT is driven on all PERM lines at once and copied to
OUT_CODE; no input read, no ring-buffer access (R174). -/
def State.excAction (s : State) : State := s.outputWrite (excCode s.params s.tickCount)

end Sys2Proof.Machine
end

