-- ==== Sys2Proof/Machine/RingBuffer.lean ====
section
/-! DEFINITION. The sample ring buffer (44_ring_buffer.md): the push of an acquisition tick, the pop of an RB_DATA
read, and the reading of the buffer as a queue that the rules reason with. -/

namespace Sys2Proof.Machine

/-- RB_PUSH(v): the slot, then the index, then the lap count if the indices have met (R231, R232). None if
RB_WIDX is no slot (log 16). -/
def State.rbPush (s : State) (v : Sample) : Option State :=
  (s.memWrite s.rbWidx v).map fun s1 =>
    let w := nextSlot s.params s.rbWidx
    { s1 with
      rbWidx := w
      ovrCount := if w = s.rbRidx then s.ovrCount + 1#32 else s.ovrCount }

/-- `acq_action(s)`: the input draw is pushed; no output write, no waiting for the reader (R173). -/
def State.acqAction (s : State) (x : Sample) : Option State := s.rbPush x

/-- RD_RB_DATA: one atomic pop. Empty: 0 and nothing changes. Else VALID and the sample at RB_RIDX, which
advances (R233). -/
def execRdRbData (s : State) : Host.Outcome State Fault Refusal :=
  if s.rbWidx ≠ s.rbRidx then
    match s.memRead s.rbRidx with
    | some v => .next (({ s with rbRidx := nextSlot s.params s.rbRidx }).respond (.data (rbDataWord v)))
    | none => .fault (.slotOutOfRange s.rbRidx)
  else .next (s.respond (.data 0#32))

/-! ## The buffer as a queue (for reasoning only, R230, R236) -/

/-- occ = (RB_WIDX - RB_RIDX) mod RB_N (R230); the block does not compute it. -/
def State.occupancy (s : State) : Nat := (s.rbWidx + s.params.rbN - s.rbRidx) % s.params.rbN

/-- The samples a host can still pop, oldest first (R236's live window). -/
def State.unread (s : State) : List Sample :=
  (List.range s.occupancy).map fun k => s.slot ((s.rbRidx + k) % s.params.rbN)

end Sys2Proof.Machine
end

