-- ==== Sys2Proof/Machine/Controller.lean ====
section
/-! DEFINITION. The sequence controller (43_controller.md): the three CMD writes. -/

namespace Sys2Proof.Machine

/-- The commit of a BEGIN that passed every check: latch, reset the counter, select the mode, report OK, and
with tt ≥ 1 leave idle and arm the first interval (R203, R207). -/
def State.commit (s : State) (m : Mode) (cpt tt : Word) : State :=
  let s1 := ({ s with cpt := cpt, tt := tt, tickCount := 0#32, mode := m }).setOutcome .ok .none
  if tt = 0#32 then s1 else ({ s1 with completed := false }).arm cpt

/-- BEGIN(m): the busy check, then DERIVE and its validation, then the commit (R203-R205). -/
def State.beginSeq (s : State) (m : Mode) : State :=
  if s.completed then
    match derive s.params m s.argFreq s.argDur with
    | .ok cpt tt => s.commit m cpt tt
    | .err cause => s.setOutcome .cfgErr cause
  else s.setOutcome .busy .none

/-- BEGIN_EXC (R201): BEGIN(EXC), acknowledged. -/
def execBeginExc (s : State) : Host.Outcome State Fault Refusal :=
  .next ((s.beginSeq .exc).respond .ack)

/-- BEGIN_ACQ (R202): BEGIN(ACQ), acknowledged. -/
def execBeginAcq (s : State) : Host.Outcome State Fault Refusal :=
  .next ((s.beginSeq .acq).respond .ack)

/-- CMD_ILLEGAL (R206): the result code only, whether or not a sequence runs. -/
def execCmdIllegal (_data : Word) (s : State) : Host.Outcome State Fault Refusal :=
  .next ((s.setOutcome .illegalCmd .none).respond .ack)

end Sys2Proof.Machine
end

