-- ==== Sys2Proof/Machine/RegReads.lean ====
section
/-! DEFINITION. The register reads without a side effect (45_register_access.md); the one read with a side effect,
RD_RB_DATA, is in RingBuffer.lean. -/

namespace Sys2Proof.Machine

/-- A read of a register: the master gets its 32 bits, nothing changes (R65, R260). -/
def readReg (r : Reg) (s : State) : Host.Outcome State Fault Refusal :=
  .next (s.respond (.data (s.regRead r)))

/-- RD_CMD (R261): the register is write only and reads 0. -/
def execRdCmd (s : State) : Host.Outcome State Fault Refusal := readReg .cmd s

/-- RD_ARG_FREQ (R263). -/
def execRdArgFreq (s : State) : Host.Outcome State Fault Refusal := readReg .argFreq s

/-- RD_ARG_DUR (R265). -/
def execRdArgDur (s : State) : Host.Outcome State Fault Refusal := readReg .argDur s

/-- RD_STATUS (R266): every field from the one state, none cleared. -/
def execRdStatus (s : State) : Host.Outcome State Fault Refusal := readReg .status s

/-- RD_CPT (R267). -/
def execRdCpt (s : State) : Host.Outcome State Fault Refusal := readReg .cpt s

/-- RD_TT (R268). -/
def execRdTt (s : State) : Host.Outcome State Fault Refusal := readReg .tt s

/-- RD_TICK_COUNT (R269). -/
def execRdTickCount (s : State) : Host.Outcome State Fault Refusal := readReg .tickCount s

/-- RD_RB_WIDX (R270): zero-extended. -/
def execRdRbWidx (s : State) : Host.Outcome State Fault Refusal := readReg .rbWidx s

/-- RD_RB_RIDX (R271): zero-extended. -/
def execRdRbRidx (s : State) : Host.Outcome State Fault Refusal := readReg .rbRidx s

/-- RD_OVR_COUNT (R272): the counter is not cleared. -/
def execRdOvrCount (s : State) : Host.Outcome State Fault Refusal := readReg .ovrCount s

/-- RD_OUT_CODE (R273). -/
def execRdOutCode (s : State) : Host.Outcome State Fault Refusal := readReg .outCode s

/-- RD_RSVD (R283): a reserved slot reads 0; no bus error. -/
def execRdRsvd (_k : BitVec 2) (s : State) : Host.Outcome State Fault Refusal := readReg .rsvd s

end Sys2Proof.Machine
end

