-- ==== Sys2Proof/Machine/RegWrites.lean ====
section
/-! DEFINITION. The register writes (45_register_access.md): the two argument registers, and the ignored writes to
read-only registers and reserved slots. -/

namespace Sys2Proof.Machine

/-- WR_ARG_FREQ (R262): accepted at any time; a running sequence is not touched (R211). -/
def execWrArgFreq (data : Word) (s : State) : Host.Outcome State Fault Refusal :=
  .next (({ s with argFreq := data }).respond .ack)

/-- WR_ARG_DUR (R264): accepted at any time; a running sequence is not touched (R211). -/
def execWrArgDur (data : Word) (s : State) : Host.Outcome State Fault Refusal :=
  .next (({ s with argDur := data }).respond .ack)

/-- A write that the block ignores: legal, acknowledged, no state changes, no fault recorded (R274-R282, R284). -/
def ignoredWrite (_data : Word) (s : State) : Host.Outcome State Fault Refusal := .next (s.respond .ack)

/-- WR_STATUS (R274): ignored. -/
def execWrStatus (data : Word) (s : State) : Host.Outcome State Fault Refusal := ignoredWrite data s

/-- WR_CPT (R275): ignored. -/
def execWrCpt (data : Word) (s : State) : Host.Outcome State Fault Refusal := ignoredWrite data s

/-- WR_TT (R276): ignored. -/
def execWrTt (data : Word) (s : State) : Host.Outcome State Fault Refusal := ignoredWrite data s

/-- WR_TICK_COUNT (R277): ignored. -/
def execWrTickCount (data : Word) (s : State) : Host.Outcome State Fault Refusal := ignoredWrite data s

/-- WR_RB_WIDX (R278): ignored. -/
def execWrRbWidx (data : Word) (s : State) : Host.Outcome State Fault Refusal := ignoredWrite data s

/-- WR_RB_RIDX (R279): ignored. -/
def execWrRbRidx (data : Word) (s : State) : Host.Outcome State Fault Refusal := ignoredWrite data s

/-- WR_RB_DATA (R280): ignored. -/
def execWrRbData (data : Word) (s : State) : Host.Outcome State Fault Refusal := ignoredWrite data s

/-- WR_OVR_COUNT (R281): ignored. -/
def execWrOvrCount (data : Word) (s : State) : Host.Outcome State Fault Refusal := ignoredWrite data s

/-- WR_OUT_CODE (R282): ignored. -/
def execWrOutCode (data : Word) (s : State) : Host.Outcome State Fault Refusal := ignoredWrite data s

/-- WR_RSVD (R284): ignored. -/
def execWrRsvd (_k : BitVec 2) (data : Word) (s : State) : Host.Outcome State Fault Refusal := ignoredWrite data s

end Sys2Proof.Machine
end

