-- ==== Sys2Proof/Machine/BusErrors.lean ====
section
/-! DEFINITION. The bus errors (R285): accesses that are not 32 bits wide or not aligned. -/

namespace Sys2Proof.Machine

/-- BUSERR: BusError with the access's DIR, SIZE and OFF is recorded, the master gets an error response, and no
state of the block changes (R285, R315). -/
def busError (dir : BitVec 1) (size : BitVec 2) (off : BitVec 6) (s : State) : Host.Outcome State Fault Refusal :=
  .next (s.raise (.busError dir size off))

/-- BUSERR_SIZE8 (R285): an 8-bit access. -/
def execBuserrSize8 (dir : BitVec 1) (off : BitVec 6) (_data : Word) (s : State) : Host.Outcome State Fault Refusal :=
  busError dir 0b00#2 off s

/-- BUSERR_SIZE16 (R285): a 16-bit access. -/
def execBuserrSize16 (dir : BitVec 1) (off : BitVec 6) (_data : Word) (s : State) : Host.Outcome State Fault Refusal :=
  busError dir 0b01#2 off s

/-- BUSERR_SIZE_RSVD (R285): the reserved size. -/
def execBuserrSizeRsvd (dir : BitVec 1) (off : BitVec 6) (_data : Word) (s : State) : Host.Outcome State Fault Refusal :=
  busError dir 0b11#2 off s

/-- BUSERR_MISALIGNED_1 (R285): a 32-bit access with OFF[1:0] = 1. -/
def execBuserrMisaligned1 (dir : BitVec 1) (slot : BitVec 4) (_data : Word) (s : State) :
    Host.Outcome State Fault Refusal :=
  busError dir size32 (slot ++ 1#2) s

/-- BUSERR_MISALIGNED_2 (R285): a 32-bit access with OFF[1:0] = 2. -/
def execBuserrMisaligned2 (dir : BitVec 1) (slot : BitVec 4) (_data : Word) (s : State) :
    Host.Outcome State Fault Refusal :=
  busError dir size32 (slot ++ 2#2) s

/-- BUSERR_MISALIGNED_3 (R285): a 32-bit access with OFF[1:0] = 3. -/
def execBuserrMisaligned3 (dir : BitVec 1) (slot : BitVec 4) (_data : Word) (s : State) :
    Host.Outcome State Fault Refusal :=
  busError dir size32 (slot ++ 3#2) s

end Sys2Proof.Machine
end

