-- ==== Sys2Proof/Machine/Events.lean ====
section
/-! DEFINITION. The three events that are no bus access (R99): RESET (R350), FIRE (R170) and TICK (R172). -/

namespace Sys2Proof.Machine

/-- RESET (R350): enabled in every state. -/
def execReset (s : State) : Host.Outcome State Fault Refusal := .next s.resetBlock

/-- FIRE (R170): enabled when TRIG_ARMED = 1 (log 13). -/
def execFire (s : State) : Host.Outcome State Fault Refusal :=
  if s.trigArmed then .next (s.expire.respond .none) else .refused .fireNotEnabled

/-- TICK step 1: the completion test `TICK_COUNT + 1 >= TT` on unbounded integers; the last tick completes and
does not re-arm, any other re-arms with CPT (R172, R175, D15). -/
def State.completeOrRearm (s : State) : State :=
  if s.tickCount.toNat + 1 ≥ s.tt.toNat then { s with completed := true } else s.arm s.cpt

/-- TICK step 2: the action by MODE (R172-R174). -/
def State.tickAction (s : State) (x : Sample) : Option State :=
  match s.mode with
  | .acq => s.acqAction x
  | .exc => some s.excAction

/-- TICK step 3: TICK_COUNT + 1; it wraps in no reachable state (R172, R182, log 17). -/
def State.countTick (s : State) : State := { s with tickCount := s.tickCount + 1#32 }

/-- TICK(s) (R172): enabled when TRIG_PENDING = 1; the timing premise first (R316), then the four steps as one
transition (R177). -/
def execTick (x : Sample) (s : State) : Host.Outcome State Fault Refusal :=
  if s.trigPending then
    if handlerFits s.params s.cpt then
      match s.completeOrRearm.tickAction x with
      | some s2 => .next (s2.countTick.acknowledge.respond .none)
      | none => .fault (.slotOutOfRange s.rbWidx)
    else .next (s.raise (.tickOverrun s.cpt))
  else .refused .tickNotEnabled

end Sys2Proof.Machine
end

