-- ==== Sys2Proof/Machine/Dispatch.lean ====
section
/-! DEFINITION. The dispatch: one arm for each operation, each calling its meaning. -/

namespace Sys2Proof.Machine

def exec (i : Instr) (s : State) : Host.Outcome State Fault Refusal :=
  match i with
  | .buserrSize8 dir off data => Sys2Proof.Machine.execBuserrSize8 dir off data s
  | .buserrSize16 dir off data => Sys2Proof.Machine.execBuserrSize16 dir off data s
  | .buserrSizeRsvd dir off data => Sys2Proof.Machine.execBuserrSizeRsvd dir off data s
  | .buserrMisaligned1 dir slot data => Sys2Proof.Machine.execBuserrMisaligned1 dir slot data s
  | .buserrMisaligned2 dir slot data => Sys2Proof.Machine.execBuserrMisaligned2 dir slot data s
  | .buserrMisaligned3 dir slot data => Sys2Proof.Machine.execBuserrMisaligned3 dir slot data s
  | .beginExc => Sys2Proof.Machine.execBeginExc s
  | .beginAcq => Sys2Proof.Machine.execBeginAcq s
  | .cmdIllegal data => Sys2Proof.Machine.execCmdIllegal data s
  | .rdCmd => Sys2Proof.Machine.execRdCmd s
  | .rdArgFreq => Sys2Proof.Machine.execRdArgFreq s
  | .rdArgDur => Sys2Proof.Machine.execRdArgDur s
  | .rdStatus => Sys2Proof.Machine.execRdStatus s
  | .rdCpt => Sys2Proof.Machine.execRdCpt s
  | .rdTt => Sys2Proof.Machine.execRdTt s
  | .rdTickCount => Sys2Proof.Machine.execRdTickCount s
  | .rdRbWidx => Sys2Proof.Machine.execRdRbWidx s
  | .rdRbRidx => Sys2Proof.Machine.execRdRbRidx s
  | .rdRbData => Sys2Proof.Machine.execRdRbData s
  | .rdOvrCount => Sys2Proof.Machine.execRdOvrCount s
  | .rdOutCode => Sys2Proof.Machine.execRdOutCode s
  | .wrArgFreq data => Sys2Proof.Machine.execWrArgFreq data s
  | .wrArgDur data => Sys2Proof.Machine.execWrArgDur data s
  | .wrStatus data => Sys2Proof.Machine.execWrStatus data s
  | .wrCpt data => Sys2Proof.Machine.execWrCpt data s
  | .wrTt data => Sys2Proof.Machine.execWrTt data s
  | .wrTickCount data => Sys2Proof.Machine.execWrTickCount data s
  | .wrRbWidx data => Sys2Proof.Machine.execWrRbWidx data s
  | .wrRbRidx data => Sys2Proof.Machine.execWrRbRidx data s
  | .wrRbData data => Sys2Proof.Machine.execWrRbData data s
  | .wrOvrCount data => Sys2Proof.Machine.execWrOvrCount data s
  | .wrOutCode data => Sys2Proof.Machine.execWrOutCode data s
  | .rdRsvd k => Sys2Proof.Machine.execRdRsvd k s
  | .wrRsvd k data => Sys2Proof.Machine.execWrRsvd k data s
  | .reset => Sys2Proof.Machine.execReset s
  | .fire => Sys2Proof.Machine.execFire s
  | .tick x => Sys2Proof.Machine.execTick x s

end Sys2Proof.Machine
end

