-- ==== Sys2Proof/Machine/Schedule.lean ====
section
/-! DEFINITION. How a label becomes a transition, and which transition the block takes by itself. -/

namespace Sys2Proof.Machine

/-- A label is taken off the schedule and its operation run; an access outside the window does not reach the
block, which takes no transition (R61, log 15); an event code that is never produced is refused (log 14). -/
def State.takeLabel (s : State) (l : Label) (rest : List Label) : Host.Outcome State Fault Refusal :=
  let s1 := { s with schedule := rest }
  match decodeLabel s.params.itcBase l with
  | .instr i => exec i s1
  | .outside => .next (s1.respond .none)
  | .badEvent code => .refused (.eventCodeNeverProduced code)

/-- The input draw of a TICK that the block takes by itself; only an acquisition TICK reads the input, so only it
uses up a draw (R172, R178, log 7). -/
def State.drawInput (s : State) : Sample × State :=
  match s.mode with
  | .acq => (Config.inputDraw s.inputDraws, { s with inputDraws := s.inputDraws + 1 })
  | .exc => (0, s)

/-- The block's own enabled event: TICK if the trigger is pending, else FIRE if it is armed, else none: the
block is quiescent (R170, R172, R180, log 5). -/
def State.ownTransition (s : State) : Host.Outcome State Fault Refusal :=
  if s.trigPending then exec (.tick s.drawInput.1) s.drawInput.2
  else if s.trigArmed then exec .fire s
  else .refused .quiescent

end Sys2Proof.Machine
end

