-- ==== Sys2Proof/Machine/Step.lean ====
section
/-! DEFINITION. The step of the machine: the next label of the schedule, or the block's own enabled event. -/

namespace Sys2Proof.Machine

/-- One transition of the total order (R69): the next scheduled label; with nothing scheduled, the block's own
agents act (R184, R321, log 5). -/
def step (s : State) : Host.Outcome State Fault Refusal :=
  match s.schedule with
  | l :: rest => s.takeLabel l rest
  | [] => s.ownTransition

/-- The label of a table word placed as the next to be taken; a word that is no label becomes an event code
that is never produced, which step refuses (log 4, log 6). -/
def State.withFetchWord (s : State) (nbits w : Nat) : State :=
  { s with schedule := ((labelOfWord nbits w).getD (.evt 0xF#4 0#16)) :: s.schedule }

end Sys2Proof.Machine
end

