-- ==== Sys2Proof/Machine/HostStream.lean ====
section
/-! DEFINITION. The host's side at its interface: assembler lines and pseudo-instructions (R101, R102), the API's
calls (R290), and the sample stream (R291, R292, R297). -/

namespace Sys2Proof.Machine

/-! ## Assembler lines (R101) -/

/-- A register name of the window, or a raw offset `+0xNN` (R101). -/
inductive AsmTarget where
  | cmd | argFreq | argDur | status | cpt | tt | tickCount | rbWidx | rbRidx | rbData | ovrCount | outCode
  | raw (off : BitVec 6)
  deriving DecidableEq, Repr

/-- The offset of a target (R66). -/
def AsmTarget.off : AsmTarget → BitVec 6
  | .cmd => 0x00#6
  | .argFreq => 0x04#6
  | .argDur => 0x08#6
  | .status => 0x0C#6
  | .cpt => 0x10#6
  | .tt => 0x14#6
  | .tickCount => 0x18#6
  | .rbWidx => 0x1C#6
  | .rbRidx => 0x20#6
  | .rbData => 0x24#6
  | .ovrCount => 0x28#6
  | .outCode => 0x2C#6
  | .raw off => off

/-- The size suffix: none, `.b` or `.h` (R101). -/
inductive AsmSize where
  | word | byte | half
  deriving DecidableEq, Repr

/-- SIZE of a suffix (R90, R101). -/
def AsmSize.code : AsmSize → BitVec 2
  | .word => 0b10#2
  | .byte => 0b00#2
  | .half => 0b01#2

/-- A non-pseudo line of the assembler, or an event of a schedule (R101). -/
inductive AsmLine where
  /-- `wr REG, imm`, with its suffix. -/
  | wr (size : AsmSize) (reg : AsmTarget) (imm : Word)
  /-- `rd REG`, with its suffix. -/
  | rd (size : AsmSize) (reg : AsmTarget)
  /-- `@reset`. -/
  | atReset
  /-- `@fire`. -/
  | atFire
  /-- `@tick(s)`. -/
  | atTick (x : Sample)
  deriving DecidableEq, Repr

/-- The label of a line. -/
def assemble : AsmLine → Label
  | .wr size reg imm => .txn (Txn.make 1#1 size.code reg.off imm)
  | .rd size reg => .txn (Txn.make 0#1 size.code reg.off 0#32)
  | .atReset => .evt 0x0#4 0#16
  | .atFire => .evt 0x1#4 0#16
  | .atTick x => .evt 0x2#4 x

/-- A 32-bit write line. -/
def wr (reg : AsmTarget) (imm : Word) : AsmLine := .wr .word reg imm

/-- A 32-bit read line. -/
def rd (reg : AsmTarget) : AsmLine := .rd .word reg

/-! ## Pseudo-instructions (R102) and the API (R290) -/

/-- The CMD value of a begin call (R98). -/
def beginCode : Mode → Word
  | .exc => 1#32
  | .acq => 2#32

/-- `begin.exc f, d` and `begin.acq f, d`: three transactions, not atomic as a group (R102). -/
def beginLines (m : Mode) (f d : Word) : List AsmLine :=
  [wr .argFreq f, wr .argDur d, wr .cmd (beginCode m)]

/-- `is.done`, the API's `is_complete()`: bit 0 of a STATUS read (R102, R208). -/
def isDone (status : Word) : Bool := status.getLsbD 0

/-- RESULT of a STATUS read, bits [5:4] (R94). -/
def resultField (status : Word) : BitVec 2 := status.extractLsb' 4 2

/-- `pop`: one element of `drain_available_samples`, or none if VALID is 0 (R102). -/
def popped (rbData : Word) : Option Sample :=
  if rbData.getLsbD 31 then some (rbData.extractLsb' 0 16) else none

/-- `drain`: the samples of successive RB_DATA reads, up to the first with VALID = 0 (R102). -/
def drained : List Word → List Sample
  | [] => []
  | v :: vs =>
    match popped v with
    | some x => x :: drained vs
    | none => []

/-- CFG_CAUSE of a STATUS read, bits [10:8] (R94). -/
def causeField (status : Word) : BitVec 3 := status.extractLsb' 8 3

/-- The data of a response; 0 where it carries none. -/
def Response.value : Response → Word
  | .data v => v
  | .none => 0#32
  | .ack => 0#32
  | .fault _ => 0#32

/-- A call of the host: one of the four of the source's API (R290), or a single transaction (R101). -/
inductive HostCall where
  /-- `begin_excitation(f, d)`. -/
  | beginExcitation (f d : Word)
  /-- `begin_acquisition(f, d)`. -/
  | beginAcquisition (f d : Word)
  /-- `is_complete()`. -/
  | isComplete
  /-- `drain_available_samples()`. -/
  | drainAvailableSamples
  /-- `wr REG, imm`, with its suffix. -/
  | write (size : AsmSize) (reg : AsmTarget) (imm : Word)
  /-- `rd REG`, with its suffix. -/
  | read (size : AsmSize) (reg : AsmTarget)
  deriving DecidableEq, Repr

/-- What a call returns. -/
inductive CallResult where
  /-- Of a begin call: RESULT and CFG_CAUSE of its STATUS read. -/
  | begun (result : BitVec 2) (cause : BitVec 3)
  /-- Of `is_complete()`. -/
  | complete (done : Bool)
  /-- Of `drain_available_samples()`. -/
  | samples (xs : List Sample)
  /-- Of a single transaction: its response. -/
  | response (r : Response)
  deriving DecidableEq, Repr

/-- What a call does after the responses so far: its next transaction, or its return. -/
inductive CallStep where
  | issue (line : AsmLine)
  | done (r : CallResult)
  deriving DecidableEq, Repr

/-- A begin call: the three writes of `begin.exc` or `begin.acq`, then `rd STATUS` for the result (R290). -/
def beginCall (m : Mode) (f d : Word) : List Response → CallStep
  | [_, _, _, st] => .done (.begun (resultField st.value) (causeField st.value))
  | got => .issue ((beginLines m f d)[got.length]?.getD (rd .status))

/-- A call after the responses `got` to its transactions so far, in order (R290, R101). -/
def HostCall.step : HostCall → List Response → CallStep
  | .beginExcitation f d, got => beginCall .exc f d got
  | .beginAcquisition f d, got => beginCall .acq f d got
  | .isComplete, [] => .issue (rd .status)
  | .isComplete, st :: _ => .done (.complete (isDone st.value))
  | .drainAvailableSamples, got =>
    if got.all fun r => (popped r.value).isSome then .issue (rd .rbData)
    else .done (.samples (drained (got.map Response.value)))
  | .write size reg imm, [] => .issue (.wr size reg imm)
  | .write _ _ _, r :: _ => .done (.response r)
  | .read size reg, [] => .issue (.rd size reg)
  | .read _ _, r :: _ => .done (.response r)

/-! ## The sample stream -/

/-- The sentinel, all bits set (R292). -/
def sentinel : Sample := 0xFFFF#16

/-- The values of one acquisition's stream (R292). -/
def frame (xs : List Sample) : List Sample := sentinel :: xs ++ [sentinel]

/-- Each value as two bytes, low byte first, unchanged: a sample of 0xFFFF is sent like any other (R291, R297). -/
def streamBytes : List Sample → List Byte
  | [] => []
  | v :: vs => v.extractLsb' 0 8 :: v.extractLsb' 8 8 :: streamBytes vs

/-- The values of a stream of bytes (R291). -/
def streamValues : List Byte → List Sample
  | lo :: hi :: bs => (hi ++ lo) :: streamValues bs
  | _ => []

/-- The samples lost between two OVR_COUNT reads: RB_N for each lap (R240, R294). -/
def samplesLost (p : Params) (ovr0 ovr1 : Word) : Nat := p.rbN * (ovr1 - ovr0).toNat

end Sys2Proof.Machine
end

