-- ==== Sys2Proof/Machine/HostProc.lean ====
section
/-! DEFINITION. The host as an agent beside the block: a finite program of API calls (R290), the procedures
ACQUIRE_AND_STREAM and EXPERIMENT (R294, R295) and the command surface (R296), each by what it issues next and what
it does with the response; and the two agents together. It adds nothing to the block's
state (46_host_stream.md). -/

namespace Sys2Proof.Machine

/-- Where the host stands in its procedure: the transaction it issues next. -/
inductive HostPhase where
  /-- EXPERIMENT: `begin.exc`, first write (R295). -/
  | excFreq
  | excDur
  | excCmd
  /-- `wait.done`. -/
  | excWait
  /-- SETTLE_PHASE(), outside the block: no transaction (R295, log 21). -/
  | settle
  /-- ACQUIRE_AND_STREAM: the drain that discards leftovers (R294). -/
  | discard
  /-- `rd OVR_COUNT -> o0`. -/
  | ovrBefore
  /-- `begin.acq`, first write. -/
  | acqFreq
  | acqDur
  | acqCmd
  /-- `rd STATUS`: RESULT must be OK. -/
  | checkBegin
  /-- The drain inside the loop. -/
  | drain
  /-- `rd STATUS` inside the loop. -/
  | poll
  /-- The final drain after completion. -/
  | finalDrain
  /-- `rd OVR_COUNT -> o1`. -/
  | ovrAfter
  /-- The procedure is done. -/
  | finished
  /-- A program of calls: the next transaction of its first call (R290). -/
  | calls
  /-- The command was malformed: an error message and nothing else (R296). -/
  | malformed
  /-- The BEGIN was rejected: the procedure stops, no samples, no closing sentinel (R294, log 21). -/
  | rejected
  deriving DecidableEq, Repr

/-- The host agent. -/
structure HostState where
  /-- Where it stands. -/
  phase : HostPhase
  /-- The frequency and duration of the pulse. -/
  excFreq : Word
  excDur : Word
  /-- The rate and duration of the acquisition. -/
  acqFreq : Word
  acqDur : Word
  /-- The values emitted so far, in order (R291-R293). -/
  stream : List Sample
  /-- o0 and o1 of R294. -/
  ovr0 : Word
  ovr1 : Word
  /-- The calls still to be made, first first, and the responses to the first one's transactions so far (R290). -/
  calls : List HostCall
  got : List Response
  /-- What the calls made so far returned, in order. -/
  results : List CallResult
  /-- The error message emitted, if one was (R296). -/
  message : Option String
  deriving DecidableEq, Repr

/-- The transaction the host issues at its phase, none where it issues none. -/
def HostState.issue (h : HostState) : Option AsmLine :=
  match h.phase with
  | .excFreq => some (wr .argFreq h.excFreq)
  | .excDur => some (wr .argDur h.excDur)
  | .excCmd => some (wr .cmd (beginCode .exc))
  | .excWait => some (rd .status)
  | .settle => none
  | .discard => some (rd .rbData)
  | .ovrBefore => some (rd .ovrCount)
  | .acqFreq => some (wr .argFreq h.acqFreq)
  | .acqDur => some (wr .argDur h.acqDur)
  | .acqCmd => some (wr .cmd (beginCode .acq))
  | .checkBegin => some (rd .status)
  | .drain => some (rd .rbData)
  | .poll => some (rd .status)
  | .finalDrain => some (rd .rbData)
  | .ovrAfter => some (rd .ovrCount)
  | .finished => none
  | .calls =>
    match h.calls with
    | c :: _ =>
      match c.step h.got with
      | .issue line => some line
      | .done _ => none
    | [] => none
  | .malformed => none
  | .rejected => none

/-- The host has issued its last transaction (R364). -/
def HostState.over (h : HostState) : Bool :=
  match h.phase with
  | .finished | .rejected | .malformed => true
  | .calls => h.calls.isEmpty
  | .excFreq | .excDur | .excCmd | .excWait | .settle | .discard | .ovrBefore | .acqFreq | .acqDur | .acqCmd
  | .checkBegin | .drain | .poll | .finalDrain | .ovrAfter => false

/-- A value is emitted (R293). -/
def HostState.emit (h : HostState) (v : Sample) : HostState := { h with stream := h.stream ++ [v] }

/-- The first call takes a response: it goes on, or it returns and the next call follows (R290). -/
def HostState.callReceive (h : HostState) (r : Response) : HostState :=
  match h.calls with
  | [] => h
  | c :: cs =>
    match c.step (h.got ++ [r]) with
    | .issue _ => { h with got := h.got ++ [r] }
    | .done res => { h with calls := cs, got := [], results := h.results ++ [res] }

/-- What the host does with the response to the transaction it issued (R290, R294, R295). -/
def HostState.receive (h : HostState) (r : Response) : HostState :=
  let v := r.value
  match h.phase with
  | .excFreq => { h with phase := .excDur }
  | .excDur => { h with phase := .excCmd }
  | .excCmd => { h with phase := .excWait }
  | .excWait => if isDone v then { h with phase := .settle } else h
  | .settle => h
  | .discard =>
    match popped v with
    | some _ => h
    | none => { h with phase := .ovrBefore }
  | .ovrBefore => { h.emit sentinel with ovr0 := v, phase := .acqFreq }
  | .acqFreq => { h with phase := .acqDur }
  | .acqDur => { h with phase := .acqCmd }
  | .acqCmd => { h with phase := .checkBegin }
  | .checkBegin => if resultField v = 0#2 then { h with phase := .drain } else { h with phase := .rejected }
  | .drain =>
    match popped v with
    | some x => h.emit x
    | none => { h with phase := .poll }
  | .poll => if isDone v then { h with phase := .finalDrain } else { h with phase := .drain }
  | .finalDrain =>
    match popped v with
    | some x => h.emit x
    | none => { h.emit sentinel with phase := .ovrAfter }
  | .ovrAfter => { h with ovr1 := v, phase := .finished }
  | .finished => h
  | .calls => h.callReceive r
  | .malformed => h
  | .rejected => h

/-- ACQUIRE_AND_STREAM(f, d) at its start (R294). -/
def HostState.acquire (f d : Word) : HostState where
  phase := .discard
  excFreq := 0#32
  excDur := 0#32
  acqFreq := f
  acqDur := d
  stream := []
  ovr0 := 0#32
  ovr1 := 0#32
  calls := []
  got := []
  results := []
  message := none

/-- EXPERIMENT(pulse_ms, read_ms) at its start, with the OPEN host constants (R295). -/
def HostState.experiment (pulseMs readMs : Word) : HostState :=
  { HostState.acquire Config.acqRateHz readMs with
    phase := .excFreq
    excFreq := Config.excFreqHz
    excDur := pulseMs }

/-- A finite host program of calls at its start (R290). -/
def HostState.program (cs : List HostCall) : HostState :=
  { HostState.acquire 0#32 0#32 with phase := .calls, calls := cs }

/-- The host command surface: a command that parses runs EXPERIMENT; on any other the host emits an error message,
whose text is free, and does nothing else (R296, log 21). -/
def HostState.command (text : String) : HostState :=
  match Config.parse text with
  | some (pulseMs, readMs) => HostState.experiment pulseMs readMs
  | none => { HostState.program [] with phase := .malformed, message := some (Config.errorMessage text) }

/-- The block and its one host. -/
structure System where
  block : State
  host : HostState
  deriving DecidableEq, Repr

/-- Whose transition comes next; any order is an execution (R321). -/
inductive Move where
  | host
  | fire
  | tick (x : Sample)
  | reset
  deriving DecidableEq, Repr

/-- The block's part of a transition, the host's part after it. -/
def System.after (y : System) (h : State → HostState) (i : Instr) : Host.Outcome System Fault Refusal :=
  match exec i y.block with
  | .next b => .next { block := b, host := h b }
  | .fault r => .fault r
  | .refused r => .refused r

/-- One transition of the two agents: the host issues its transaction and takes the response, or the block's
event happens. A host with nothing to issue leaves the block alone; SETTLE_PHASE ends. DESIGN CHOICE (log 25): a
RESET does not touch the host, which goes on from its phase; the spec leaves open the stream of an acquisition that a
RESET cuts short (N16). -/
def System.move (y : System) : Move → Host.Outcome System Fault Refusal
  | .host =>
    match y.host.issue with
    | some line =>
      match decodeLabel y.block.params.itcBase (assemble line) with
      | .instr i => y.after (fun b => y.host.receive b.response) i
      | .outside => .next y
      | .badEvent code => .refused (.eventCodeNeverProduced code)
    | none => .next (if y.host.phase = .settle then { y with host := { y.host with phase := .discard } } else y)
  | .fire => y.after (fun _ => y.host) .fire
  | .tick x => y.after (fun _ => y.host) (.tick x)
  | .reset => y.after (fun _ => y.host) .reset

/-- Moves in order, to the first fault or refusal. -/
def System.moves (y : System) : List Move → Host.Outcome System Fault Refusal
  | [] => .next y
  | m :: ms =>
    match y.move m with
    | .next y2 => y2.moves ms
    | .fault r => .fault r
    | .refused r => .refused r

end Sys2Proof.Machine
end

