-- ==== Sys2Proof/Safety.lean ====
section
/-! DEFINITION. What counts as a safe state and a safe run, in the terms the statements use: the launch premise,
the end of a run, and the invariants the rules give. -/

namespace Sys2Proof.Machine

/-- CLEAN_IDLE, the launch premise of a claim (R366). -/
def State.CleanIdle (s : State) : Prop :=
  s.faults = [] ∧ s.completed = true ∧ s.trigArmed = false ∧ s.trigPending = false ∧ s.rbWidx = s.rbRidx

/-- The end of a sequence: the TICK that sets COMPLETED (R364, R181). -/
def EndsSequence (s : State) (i : Instr) (t : State) : Prop :=
  exec i s = .next t ∧ (∃ x, i = .tick x) ∧ s.completed = false ∧ t.completed = true

/-- Items 2 to 4 of a run's end (R364): the sequence over, the trigger quiet, no fault. -/
def State.Settled (s : State) : Prop :=
  s.completed = true ∧ s.trigArmed = false ∧ s.trigPending = false ∧ s.faults = []

/-- A label that the host issues: a bus access, not an event (R364, log 15). -/
def isHostLabel : Label → Bool
  | .txn _ => true
  | .access _ _ _ _ => true
  | .evt _ _ => false

/-- The four items of a run's end for the host program whose transactions are scheduled: none is left to issue;
events may be (R364). -/
def State.RunEnd (s : State) : Prop := (∀ l ∈ s.schedule, isHostLabel l = false) ∧ s.Settled

/-- The run from `s` ends in `t`, the first state with the four items (R364). -/
def State.RunEndsIn (s t : State) : Prop :=
  ∃ k, Sys2Proof.core.run k s = .next t ∧ t.RunEnd ∧ ∀ j < k, ∀ u, Sys2Proof.core.run j s = .next u → ¬ State.RunEnd u

/-- The four items of a run's end for the host beside the block (R364). -/
def System.RunEnd (y : System) : Prop := y.host.over = true ∧ y.block.Settled

/-- The run from `y` by the moves `ms` ends in `z`, the first state with the four items (R364). -/
def System.RunEndsIn (y : System) (ms : List Move) (z : System) : Prop :=
  y.moves ms = .next z ∧ z.RunEnd ∧ ∀ ns, ns <+: ms → ns ≠ ms → ∀ u, y.moves ns = .next u → ¬ u.RunEnd

/-- Among the moves is the final drain's last read, which found the buffer empty after COMPLETED = 1 (R364). -/
def System.DrainedAtEnd (y : System) (ms : List Move) : Prop :=
  ∃ ns u, ns ++ [.host] <+: ms ∧ y.moves ns = .next u ∧ u.host.phase = .finalDrain ∧ u.block.completed = true ∧
    u.block.rbWidx = u.block.rbRidx

/-- The end of a run of ACQUIRE_AND_STREAM, which also requires the final drain (R364, stream end). -/
def System.StreamEndsIn (y : System) (ms : List Move) (z : System) : Prop := y.RunEndsIn ms z ∧ y.DrainedAtEnd ms

/-- The sequencer's invariant: the two of R180, the counter's bound of R182, the constant interval of R175 and the
legal values of R24. -/
structure State.ControlInv (s : State) : Prop where
  /-- R180, first line. -/
  running_iff : s.completed = false ↔ s.trigArmed = true ∨ s.trigPending = true
  /-- R180, second line. -/
  exclusive : ¬ (s.trigArmed = true ∧ s.trigPending = true)
  /-- R182: TICK_COUNT ≤ TT, and strictly below while a sequence runs. -/
  count_le : s.tickCount.toNat ≤ s.tt.toNat
  count_lt : s.completed = false → s.tickCount.toNat < s.tt.toNat
  /-- R181, R269: an idle block has counted TT ticks. -/
  idle_count : s.completed = true → s.tickCount = s.tt
  /-- R175: an armed trigger holds the latched interval. -/
  armed_load : s.trigArmed = true → s.trigLoad = s.cpt
  /-- R24: MIN_CPT ≤ CPT while a sequence runs. -/
  cpt_min : s.completed = false → s.params.minCpt ≤ s.cpt.toNat

/-- CFG_CAUSE is 0 whenever RESULT ≠ CFG_ERR, and names a cause when it is (R97, R205). -/
def State.OutcomeInv (s : State) : Prop := s.cfgCause = .none ↔ s.result ≠ .cfgErr

/-- The ring buffer's invariant: the indices are slots (R32, R33), RB_MEM is canonical and holds slots only (R75),
and every unread slot was written since RESET (R238). -/
structure State.RingInv (s : State) : Prop where
  widx_lt : s.rbWidx < s.params.rbN
  ridx_lt : s.rbRidx < s.params.rbN
  canonical : s.rbMem.wf
  slots_lt : ∀ e ∈ s.rbMem, e.1 < s.params.rbN
  unread_written : ∀ k < s.occupancy, (s.rbMem.read? ((s.rbRidx + k) % s.params.rbN)).isSome

/-- Only the PERM bits of OUT_CODE can be 1 (R35). -/
def State.OutputInv (s : State) : Prop :=
  ∀ line : Fin 32, s.outCode.getLsbD line = true → line ∈ s.params.perm.toList

/-- An execution as the rules speak of it: state n and operation n give state n + 1, in any order of enabled
operations (R69, R321). -/
def Executes (st : Nat → State) (op : Nat → Instr) : Prop := ∀ n, exec (op n) (st n) = .next (st (n + 1))

/-- Weak fairness: an armed trigger is eventually followed by FIRE, a pending one by TICK, unless a RESET drops it;
any finite number of bus accesses may come between (R184, R350). -/
def WeaklyFair (st : Nat → State) (op : Nat → Instr) : Prop :=
  ∀ n, ((st n).trigArmed = true → ∃ m, n ≤ m ∧ (op m = .fire ∨ op m = .reset)) ∧
    ((st n).trigPending = true → ∃ m, n ≤ m ∧ ((∃ x, op m = .tick x) ∨ op m = .reset))

/-- A step that ends in a next state. -/
def Completes (r : Host.Outcome State Fault Refusal) : Prop := ∃ t, r = .next t

end Sys2Proof.Machine
end

