-- ==== Sys2Proof/Certificates/Slice0/Obligations.lean ====
section
/-! DEFINITION. The statements for the provers, from the numbered rules of spec/. Each docstring says which rules
it formalises; a clause that is the model's own choice names its log entry. -/

open Sys2Proof Sys2Proof.Machine

/-! ## Encoding -/

/-- Decode undoes encode for every well-formed operation (R90, R91, R93, R98, R99). For every ITC_BASE and every
well-formed operation, with every operand at every value of its field, decoding the label it is encoded as gives
that operation back. -/
def Obligations.DecodeOfEncodeIsTheInstr : Prop :=
  ∀ (base : Nat) (i : Instr), i.wf = true → decodeLabel base (encode i) = .instr i

/-- The decoder agrees with the opcode table's first match on every TXN41 word (R93, R98, opcode_table.json). For
every 41-bit word, the first of the 34 TXN41 rows of the opcode table, in the table's order, whose match agrees
with the word under its mask is the row of the operation that the word decodes to. -/
def Obligations.DecodeIsFirstOpcodeTableRow : Prop :=
  ∀ w : Txn, (txnTable.find? fun r => r.covers w).map TxnRow.mnemonic = some (decodeTxn w).mnemonic

/-- Encode undoes decode on every TXN41 word, but for the DATA a legal read ignores (R90, R93). Every TXN41 word
decodes to a well-formed operation, and encoding that operation gives the word back; a legal read, whose DATA is
ignored, comes back with DATA 0 (log 23: the encoder writes the 0). -/
def Obligations.EncodeOfDecodeRestoresTheWord : Prop :=
  ∀ w : Txn, (decodeTxn w).wf = true ∧
    encode (decodeTxn w) =
      .txn (if w.size = 0b10#2 ∧ offLow w.off = 0#2 ∧ w.dir = 0#1 then Txn.make 0#1 0b10#2 w.off 0#32 else w)

/-- Words written out in the spec decode to the operations it names (R201, R202, R206, R233, R262, R285, R93). The
TXN41 words of the rules and test vectors for BEGIN_EXC, BEGIN_ACQ, CMD_ILLEGAL, WR_ARG_FREQ, RD_RB_DATA,
WR_RSVD, a byte write of CMD and a misaligned write inside the CMD word decode as the spec says. -/
def Obligations.SampleWordsDecode : Prop :=
  decodeTxn 0x18000000001#41 = .beginExc ∧ decodeTxn 0x18000000002#41 = .beginAcq ∧
  decodeTxn 0x18000000101#41 = .cmdIllegal 0x101#32 ∧ decodeTxn 0x18400002710#41 = .wrArgFreq 10000#32 ∧
  decodeTxn 0x0A400000000#41 = .rdRbData ∧ decodeTxn 0x1BCDEADBEEF#41 = .wrRsvd 3#2 0xDEADBEEF#32 ∧
  decodeTxn 0x10000000001#41 = .buserrSize8 1#1 0x00#6 1#32 ∧
  decodeTxn 0x18200000001#41 = .buserrMisaligned2 1#1 0#4 1#32

/-- The event codes 0, 1 and 2 are RESET, FIRE and TICK, and a step refuses every other code (R99). A scheduled
event label of code 0, 1 or 2 runs RESET, FIRE or TICK with its argument, on the state with that label taken; a
label with any of the codes 3 to 15, which are never produced, is refused by name (log 14). -/
def Obligations.EventCodesDecode : Prop :=
  ∀ (s : State) (rest : List Label) (code : EvtCode) (x : Sample), s.schedule = .evt code x :: rest →
    (code = 0#4 → step s = exec .reset { s with schedule := rest }) ∧
    (code = 1#4 → step s = exec .fire { s with schedule := rest }) ∧
    (code = 2#4 → step s = exec (.tick x) { s with schedule := rest }) ∧
    (2#4 < code → step s = .refused (.eventCodeNeverProduced code))

/-! ## The step -/

/-- A step runs the operation that the next scheduled label decodes to (R69, R93). When the first scheduled label
decodes to operation i, step at that state is exec of i at the state with that label taken off the schedule.
That a schedule in the state gives the total order of R69 is the model's choice (log 4). -/
def Obligations.StepRunsTheDecodedInstr : Prop :=
  ∀ (s : State) (l : Label) (rest : List Label) (i : Instr), s.schedule = l :: rest →
    decodeLabel s.params.itcBase l = .instr i → step s = exec i { s with schedule := rest }

/-- With nothing scheduled the block's own enabled event happens, and a quiet block makes no step (R170, R172,
R184). The model's choice (log 5, log 7): with an empty schedule a pending trigger is serviced by a TICK (in
acquisition with the next free input draw), else an armed trigger FIREs, else the step is refused as quiescent. -/
def Obligations.StepTakesTheBlocksOwnEvent : Prop :=
  ∀ s : State, s.schedule = [] →
    (s.trigPending = true → s.mode = .acq →
      step s = exec (.tick (Config.inputDraw s.inputDraws)) { s with inputDraws := s.inputDraws + 1 }) ∧
    (s.trigPending = true → s.mode = .exc → ∃ x, step s = exec (.tick x) s) ∧
    (s.trigPending = false → s.trigArmed = true → step s = exec .fire s) ∧
    (s.trigPending = false → s.trigArmed = false → step s = .refused .quiescent)

/-- A bus access by address is decoded exactly inside the 64-byte window (R61). A scheduled access at address a with
ITC_BASE ≤ a < ITC_BASE + 64 runs the operation of the TXN41 word with offset a - ITC_BASE; an access outside
the window does not reach the block. That such an access is a step with a next state, in which the label is
taken, no response stands and nothing else changes, is the model's choice (log 15). -/
def Obligations.WindowDecodesBusAddresses : Prop :=
  ∀ (s : State) (rest : List Label) (a : Nat) (dir : BitVec 1) (size : BitVec 2) (data : Word),
    s.schedule = .access a dir size data :: rest →
    (s.params.itcBase ≤ a ∧ a < s.params.itcBase + 64 →
      step s = exec (decodeTxn (Txn.make dir size (BitVec.ofNat 6 (a - s.params.itcBase)) data))
        { s with schedule := rest }) ∧
    (¬ (s.params.itcBase ≤ a ∧ a < s.params.itcBase + 64) →
      step s = .next { s with schedule := rest, response := .none })

/-! ## Register reads -/

/-- Each plain register read completes with the register's 32 bits and changes nothing (R261, R263, R265, R267,
R268, R269, R270, R271, R272, R273, R283). RD_CMD and RD_RSVD give 0, RD_ARG_FREQ, RD_ARG_DUR, RD_CPT, RD_TT,
RD_TICK_COUNT, RD_OVR_COUNT and RD_OUT_CODE the register, RD_RB_WIDX and RD_RB_RIDX the zero-extended index, in
every state; only the response changes. -/
def Obligations.RegisterReadsGiveTheRegister : Prop :=
  ∀ (s : State) (k : BitVec 2),
    exec .rdCmd s = .next { s with response := .data 0#32 } ∧
    exec .rdArgFreq s = .next { s with response := .data s.argFreq } ∧
    exec .rdArgDur s = .next { s with response := .data s.argDur } ∧
    exec .rdCpt s = .next { s with response := .data s.cpt } ∧
    exec .rdTt s = .next { s with response := .data s.tt } ∧
    exec .rdTickCount s = .next { s with response := .data s.tickCount } ∧
    exec .rdRbWidx s = .next { s with response := .data (BitVec.ofNat 32 s.rbWidx) } ∧
    exec .rdRbRidx s = .next { s with response := .data (BitVec.ofNat 32 s.rbRidx) } ∧
    exec .rdOvrCount s = .next { s with response := .data s.ovrCount } ∧
    exec .rdOutCode s = .next { s with response := .data s.outCode } ∧
    exec (.rdRsvd k) s = .next { s with response := .data 0#32 }

/-- RD_STATUS completes with every field of the STATUS word in its place (R94). RD_STATUS changes nothing but the
response, which is a word with COMPLETED in bit 0, MODE in bit 1, AVAIL (the indices differ) in bit 2, RESULT in
[5:4], CFG_CAUSE in [10:8] and 0 in every other bit. -/
def Obligations.StatusReadHasTheLayout : Prop :=
  ∀ s : State, ∃ v : Word, exec .rdStatus s = .next { s with response := .data v } ∧
    v.getLsbD 0 = s.completed ∧ v.getLsbD 1 = decide (s.mode = .acq) ∧
    v.getLsbD 2 = decide (s.rbWidx ≠ s.rbRidx) ∧ v.getLsbD 3 = false ∧
    v.extractLsb' 4 2 =
      (match s.result with | .ok => 0#2 | .busy => 1#2 | .cfgErr => 2#2 | .illegalCmd => 3#2) ∧
    v.extractLsb' 6 2 = 0#2 ∧
    v.extractLsb' 8 3 =
      (match s.cfgCause with | .none => 0#3 | .freqZero => 1#3 | .cptLow => 2#3 | .cptHigh => 3#3 | .ttHigh => 4#3) ∧
    v.extractLsb' 11 21 = 0#21

/-- RD_RB_DATA pops one sample from a non-empty buffer and returns 0 from an empty one (R233). The word
0x0A400000000, and with it every 32-bit read of offset 0x24 whatever its DATA, is RD_RB_DATA. With the indices
equal it returns 0 and changes nothing; else, with RB_RIDX a slot of RB_MEM, it returns VALID and the 16 bits of
slot RB_RIDX and advances RB_RIDX by 1 mod RB_N; nothing else changes. -/
def Obligations.PopFollowsTheRule : Prop :=
  decodeTxn 0x0A400000000#41 = .rdRbData ∧
  (∀ data : Word, decodeTxn (Txn.make 0#1 0b10#2 0x24#6 data) = .rdRbData) ∧
  ∀ s : State,
    (s.rbWidx = s.rbRidx → exec .rdRbData s = .next { s with response := .data 0#32 }) ∧
    (s.rbWidx ≠ s.rbRidx → s.rbRidx < s.params.rbN →
      exec .rdRbData s = .next
        { s with
          rbRidx := (s.rbRidx + 1) % s.params.rbN
          response := .data (1#1 ++ 0#15 ++ s.slot s.rbRidx) })

/-! ## Register writes and bus errors -/

/-- WR_ARG_FREQ and WR_ARG_DUR set their register in every state and nothing else (R262, R264, R211). In every
state, a running sequence included, WR_ARG_FREQ and WR_ARG_DUR are acknowledged and write DATA to their
register; no other element changes. -/
def Obligations.ArgumentWritesSetTheirRegister : Prop :=
  ∀ (s : State) (data : Word),
    exec (.wrArgFreq data) s = .next { s with argFreq := data, response := .ack } ∧
    exec (.wrArgDur data) s = .next { s with argDur := data, response := .ack }

/-- Writes to read-only registers and reserved slots are acknowledged and change nothing (R274, R275, R276, R277,
R278, R279, R280, R281, R282, R284). WR_STATUS, WR_CPT, WR_TT, WR_TICK_COUNT, WR_RB_WIDX, WR_RB_RIDX,
WR_RB_DATA, WR_OVR_COUNT, WR_OUT_CODE and WR_RSVD complete in every state, for every DATA, with an
acknowledgement and no other change. -/
def Obligations.IgnoredWritesChangeNothing : Prop :=
  ∀ (s : State) (data : Word) (k : BitVec 2) (i : Instr),
    i ∈ [.wrStatus data, .wrCpt data, .wrTt data, .wrTickCount data, .wrRbWidx data, .wrRbRidx data,
      .wrRbData data, .wrOvrCount data, .wrOutCode data, .wrRsvd k data] →
    exec i s = .next { s with response := .ack }

/-- Each of the six bus errors records BusError with its triple and changes nothing else (R285, R315). BUSERR_SIZE8,
BUSERR_SIZE16, BUSERR_SIZE_RSVD and BUSERR_MISALIGNED_1, _2, _3 complete in every state: FAULTS gains BusError
with the access's DIR, SIZE and OFF, the response is that fault, nothing else changes. That the transition has a
next state is the model's reading (log 11). -/
def Obligations.BusErrorsRecordTheAccess : Prop :=
  ∀ (s : State) (dir : BitVec 1) (off : BitVec 6) (slot : BitVec 4) (data : Word) (i : Instr) (f : FaultRec),
    (i, f) ∈ [(.buserrSize8 dir off data, .busError dir 0#2 off), (.buserrSize16 dir off data, .busError dir 1#2 off),
      (.buserrSizeRsvd dir off data, .busError dir 3#2 off),
      (.buserrMisaligned1 dir slot data, .busError dir 2#2 (slot ++ 1#2)),
      (.buserrMisaligned2 dir slot data, .busError dir 2#2 (slot ++ 2#2)),
      (.buserrMisaligned3 dir slot data, .busError dir 2#2 (slot ++ 3#2))] →
    exec i s = .next { s with faults := s.faults ++ [f], response := .fault f }

/-- Exactly the accesses that are not 32 bits wide or not word-aligned are bus errors, and they change no state of
the block (R62). For every TXN41 word: if SIZE is not 0b10 or OFF[1:0] is not 0, the word's operation only
records BusError with the word's own DIR, SIZE and OFF and answers with it; else its operation, whenever it
completes, records no BusError and does not answer with one. -/
def Obligations.IllegalAccessIsABusError : Prop :=
  ∀ (s : State) (w : Txn),
    ((w.size ≠ 0b10#2 ∨ offLow w.off ≠ 0#2) →
      exec (decodeTxn w) s = .next
        { s with
          faults := s.faults ++ [.busError w.dir w.size w.off]
          response := .fault (.busError w.dir w.size w.off) }) ∧
    (w.size = 0b10#2 → offLow w.off = 0#2 → ∀ t, exec (decodeTxn w) s = .next t →
      t.faults = s.faults ∧ ∀ f, t.response ≠ .fault f)

/-! ## Commands -/

/-- CMD_ILLEGAL is a CMD write of neither 1 nor 2 and writes RESULT and CFG_CAUSE only (R206). A 32-bit write to
offset 0 of DATA other than 1 and 2 is CMD_ILLEGAL; in every state, running or idle, it sets RESULT =
ILLEGAL_CMD and CFG_CAUSE = 0 and changes nothing else. -/
def Obligations.IllegalCommandReportsOnly : Prop :=
  ∀ (s : State) (data : Word),
    (data ≠ 1#32 → data ≠ 2#32 → decodeTxn (Txn.make 1#1 0b10#2 0x00#6 data) = .cmdIllegal data) ∧
    exec (.cmdIllegal data) s = .next { s with result := .illegalCmd, cfgCause := .none, response := .ack }

/-- A BEGIN while a sequence runs sets RESULT = BUSY and changes nothing else (R204). With COMPLETED = 0, BEGIN_EXC
and BEGIN_ACQ set RESULT = BUSY and CFG_CAUSE = 0; TICK_COUNT, MODE, CPT, TT, the trigger and everything else
keep their values. -/
def Obligations.BusyBeginChangesNothingElse : Prop :=
  ∀ (s : State) (i : Instr), i ∈ [.beginExc, .beginAcq] → s.completed = false →
    exec i s = .next { s with result := .busy, cfgCause := .none, response := .ack }

/-- A BEGIN whose DERIVE fails reports the cause and changes nothing else (R205). With COMPLETED = 1, a BEGIN whose
DERIVE, on ARG_FREQ and ARG_DUR as they stand, fails with a cause sets RESULT = CFG_ERR and CFG_CAUSE to it, a
cause with a code of 1 to 4, and changes nothing else: no latch, no counter reset, no mode change, no arming,
still idle. -/
def Obligations.FailedBeginReportsTheCause : Prop :=
  ∀ (s : State) (i : Instr) (m : Mode) (c : CfgCause), (i, m) ∈ [(.beginExc, .exc), (.beginAcq, .acq)] →
    s.completed = true → derive s.params m s.argFreq s.argDur = .err c →
    exec i s = .next { s with result := .cfgErr, cfgCause := c, response := .ack } ∧
    1 ≤ c.code.toNat ∧ c.code.toNat ≤ 4

/-- A BEGIN that passes every check latches, and starts a sequence or with TT = 0 completes at once (R201, R202,
R203, R207). With COMPLETED = 1 and DERIVE = Ok(cpt, tt), BEGIN_EXC and BEGIN_ACQ complete: CPT and TT latched,
TICK_COUNT 0, MODE set, RESULT OK, CFG_CAUSE 0; with tt ≥ 1 also COMPLETED = 0 and the trigger armed with cpt,
with tt = 0 neither. Nothing else changes. -/
def Obligations.BeginStartsOrCompletesAtOnce : Prop :=
  ∀ (s : State) (i : Instr) (m : Mode) (cpt tt : Word), (i, m) ∈ [(.beginExc, .exc), (.beginAcq, .acq)] →
    s.completed = true → derive s.params m s.argFreq s.argDur = .ok cpt tt →
    exec i s = .next
      { s with
        cpt := cpt, tt := tt, tickCount := 0#32, mode := m, result := .ok, cfgCause := .none, response := .ack
        completed := decide (tt = 0#32)
        trigArmed := if tt = 0#32 then s.trigArmed else true
        trigLoad := if tt = 0#32 then s.trigLoad else cpt }

/-- Every CMD write ends with exactly one of the four outcomes, in the order of the checks (R310, R311, R312, R313,
R314, R320). For every DATA and every state a 32-bit CMD write completes and records no fault, and RESULT and
CFG_CAUSE are ILLEGAL_CMD and 0 if DATA is neither 1 nor 2, else BUSY and 0 if a sequence runs, else CFG_ERR and
DERIVE's cause, whose code is 1 to 4, if DERIVE fails, else OK and 0. -/
def Obligations.CommandEndsWithOneOutcome : Prop :=
  ∀ (s : State) (data : Word), ∃ t, exec (decodeTxn (Txn.make 1#1 0b10#2 0x00#6 data)) s = .next t ∧
    t.faults = s.faults ∧
    ((t.result, t.cfgCause) =
      if data ≠ 1#32 ∧ data ≠ 2#32 then (.illegalCmd, .none)
      else if s.completed = false then (.busy, .none)
      else match derive s.params (if data = 1#32 then .exc else .acq) s.argFreq s.argDur with
        | .err c => (.cfgErr, c)
        | .ok _ _ => (.ok, .none)) ∧
    (t.result = .cfgErr → 1 ≤ t.cfgCause.code.toNat ∧ t.cfgCause.code.toNat ≤ 4)

/-! ## Parameter derivation -/

/-- cpt_raw is SYSCLK_HZ / f_eff rounded to the nearest integer, ties up (R142). For every parameter instance and
every f_eff ≥ 1, the raw cycle count is the floor of the exact rational SYSCLK_HZ / f_eff + 1/2, and equals the
integer quotient the rule gives. -/
def Obligations.CyclesAreRoundedHalfUp : Prop :=
  ∀ (p : Params) (fEff : Nat), 1 ≤ fEff →
    ((cptRaw p fEff : Nat) : Int) = ⌊(p.sysclkHz : ℚ) / fEff + 1 / 2⌋ ∧
    cptRaw p fEff = (2 * p.sysclkHz + fEff) / (2 * fEff)

/-- total_ticks is the duration over the exact sample period, truncated (R144, R145). With sample_period_us the
exact rational 1000000 / f_eff, for f_eff ≥ 1: dur * 1000 / sample_period_us is exactly dur * f_eff / 1000, and
tt is its floor. -/
def Obligations.TicksAreTruncated : Prop :=
  ∀ (dur : Word) (fEff : Nat), 1 ≤ fEff →
    ((dur.toNat : ℚ) * 1000 / (1000000 / fEff) = dur.toNat * fEff / 1000) ∧
    ((ttOf dur fEff : Nat) : Int) = ⌊(dur.toNat : ℚ) * 1000 / (1000000 / fEff)⌋ ∧
    ttOf dur fEff = dur.toNat * fEff / 1000

/-- DERIVE returns the first failing check, or the two exact values (R146). For every instance, mode, frequency and
duration: Err(FREQ_ZERO) iff freq = 0; else Err(CPT_LOW) iff cpt < MIN_CPT; else Err(CPT_HIGH) iff cpt > 2^32 -
1; else Err(TT_HIGH) iff tt > 2^32 - 1; else Ok with the exact cpt and tt. CPT_HIGH cannot occur when SYSCLK_HZ
≤ 2^32 - 1. -/
def Obligations.DeriveIsTheFirstFailingCheck : Prop :=
  ∀ (p : Params) (m : Mode) (freq dur : Word),
    let fEff := freq.toNat * (if m = .exc then 16 else 1)
    let cpt : Int := ((2 * p.sysclkHz + fEff) / (2 * fEff) : Nat) - p.overhead
    let tt := dur.toNat * fEff / 1000
    (freq = 0#32 → derive p m freq dur = .err .freqZero) ∧
    (freq ≠ 0#32 → cpt < p.minCpt → derive p m freq dur = .err .cptLow) ∧
    (freq ≠ 0#32 → (p.minCpt : Int) ≤ cpt → cpt > 2 ^ 32 - 1 → derive p m freq dur = .err .cptHigh) ∧
    (freq ≠ 0#32 → (p.minCpt : Int) ≤ cpt → cpt ≤ 2 ^ 32 - 1 → tt > 2 ^ 32 - 1 →
      derive p m freq dur = .err .ttHigh) ∧
    (freq ≠ 0#32 → (p.minCpt : Int) ≤ cpt → cpt ≤ 2 ^ 32 - 1 → tt ≤ 2 ^ 32 - 1 →
      ∃ c t : Word, derive p m freq dur = .ok c t ∧ (c.toNat : Int) = cpt ∧ t.toNat = tt) ∧
    (p.sysclkHz ≤ 2 ^ 32 - 1 → derive p m freq dur ≠ .err .cptHigh)

/-- Every Ok result of DERIVE has CPT at least MIN_CPT and at least 1 (R148, R24, R147). For every well-formed
instance, if DERIVE answers Ok(cpt, tt) then MIN_CPT ≤ cpt, 1 ≤ cpt and freq ≠ 0; and DERIVE never fails with no
cause. -/
def Obligations.DeriveOkIsLegal : Prop :=
  ∀ (p : Params) (m : Mode) (freq dur : Word), p.wf = true →
    (∀ cpt tt, derive p m freq dur = .ok cpt tt → p.minCpt ≤ cpt.toNat ∧ 1 ≤ cpt.toNat ∧ freq ≠ 0#32) ∧
    derive p m freq dur ≠ .err .none

/-! ## Waveform tables -/

/-- WT[i] has bit PERM[j] exactly for the set bits j of i, and no other bit (R120). For every injective PERM and
every 8-bit i: bit PERM[j] of WT[i] is bit j of i, and every bit that is no PERM[j] is 0. -/
def Obligations.WaveformTableScattersBits : Prop :=
  ∀ (perm : Vector (Fin 32) 8) (i : BitVec 8), perm.toList.Nodup →
    (∀ j : Fin 8, (wt perm i).getLsbD perm[j].val = i.getLsbD j.val) ∧
    (∀ n, (wt perm i).getLsbD n = true → ∃ j : Fin 8, perm[j].val = n ∧ i.getLsbD j.val = true)

/-- unscatter undoes WT, so WT's 256 entries are distinct (R123). For every injective PERM, unscatter(WT[i]) = i for
every 8-bit i, and WT[i] = WT[k] only if i = k. -/
def Obligations.WaveformTableIsInvertible : Prop :=
  ∀ perm : Vector (Fin 32) 8, perm.toList.Nodup →
    (∀ i : BitVec 8, unscatter perm (wt perm i) = i) ∧
    (∀ i k : BitVec 8, wt perm i = wt perm k → i = k)

/-- WT[0] is 0, WT[0xFF] sets exactly the PERM bits, and WT keeps the number of set bits (R124). For every injective
PERM: WT[0x00] = 0; a bit of WT[0xFF] is set iff it is a PERM[j]; WT[i] has as many set bits as i, for every i. -/
def Obligations.WaveformTableCorners : Prop :=
  ∀ perm : Vector (Fin 32) 8, perm.toList.Nodup →
    wt perm 0x00#8 = 0#32 ∧
    (∀ n : Fin 32, (wt perm 0xFF#8).getLsbD n.val = true ↔ n ∈ perm.toList) ∧
    (∀ i : BitVec 8, (List.finRange 32).countP (fun n => (wt perm i).getLsbD n.val) =
      (List.finRange 8).countP fun j => i.getLsbD j.val)

/-- exc_code(k) is WT of SINE16[k mod 16], periodic with period 16 (R127, R128). For every instance and every 32-bit
k and j: exc_code(k) is WT at the 16-point table's entry k mod 16, and exc_code(k + 16) = exc_code(k). -/
def Obligations.ExcitationCodeIsPeriodic : Prop :=
  ∀ (p : Params) (k : Word) (j : Fin 16),
    (k.toNat % 16 = j.val → excCode p k = wt p.perm p.sine16[j]) ∧ excCode p (k + 16#32) = excCode p k

/-! ## Events -/

/-- FIRE, enabled when armed, disarms the trigger and makes it pending; else there is no such transition (R170).
With TRIG_ARMED = 1, FIRE sets TRIG_ARMED = 0 and TRIG_PENDING = 1 and changes nothing else; with TRIG_ARMED = 0
it is not enabled and is refused by name (log 13). -/
def Obligations.FireMovesArmedToPending : Prop :=
  ∀ s : State,
    (s.trigArmed = true →
      exec .fire s = .next { s with trigArmed := false, trigPending := true, response := .none }) ∧
    (s.trigArmed = false → exec .fire s = .refused .fireNotEnabled)

/-- An acquisition TICK pushes its draw, counts, acknowledges, and completes or re-arms (R172, R173, R175, R231,
R232). With TRIG_PENDING = 1, HANDLER_FITS(CPT), MODE = ACQ and RB_WIDX a slot, TICK(s) completes: the slot
RB_WIDX holds s and every other slot what it held; RB_WIDX advances mod RB_N; OVR_COUNT counts a lap exactly if
the indices meet; TICK_COUNT + 1; pending cleared; COMPLETED set if TICK_COUNT + 1 ≥ TT, else the trigger armed
with CPT; all else unchanged. TICK_COUNT + 1 is taken mod 2^32: that it is 0 after 0xFFFFFFFF, which no state
with the control invariant reaches, is the model's choice (log 17). -/
def Obligations.AcquisitionTickStoresOneSample : Prop :=
  ∀ (s : State) (x : Sample), s.trigPending = true → handlerFits s.params s.cpt = true → s.mode = .acq →
    s.rbWidx < s.params.rbN →
    ∃ t, exec (.tick x) s = .next t ∧
      (t.slot s.rbWidx = x ∧ ∀ a, a ≠ s.rbWidx → t.slot a = s.slot a) ∧
      t = { s with
        rbMem := t.rbMem
        rbWidx := (s.rbWidx + 1) % s.params.rbN
        ovrCount := if (s.rbWidx + 1) % s.params.rbN = s.rbRidx then s.ovrCount + 1#32 else s.ovrCount
        tickCount := s.tickCount + 1#32
        trigPending := false
        completed := if s.tickCount.toNat + 1 ≥ s.tt.toNat then true else s.completed
        trigArmed := if s.tickCount.toNat + 1 ≥ s.tt.toNat then s.trigArmed else true
        trigLoad := if s.tickCount.toNat + 1 ≥ s.tt.toNat then s.trigLoad else s.cpt
        response := .none }

/-- An excitation TICK drives exc_code of the old count, counts, acknowledges, and completes or re-arms (R172, R174,
R175). With TRIG_PENDING = 1, HANDLER_FITS(CPT) and MODE = EXC, TICK(s) completes for every s: OUT_CODE is
exc_code of TICK_COUNT before the increment; TICK_COUNT + 1; pending cleared; COMPLETED set if TICK_COUNT + 1 ≥
TT, else the trigger armed with CPT; all else, the ring buffer included, unchanged. TICK_COUNT + 1 is taken mod
2^32: that it is 0 after 0xFFFFFFFF, which no state with the control invariant reaches, is the model's choice
(log 17). -/
def Obligations.ExcitationTickDrivesOneCode : Prop :=
  ∀ (s : State) (x : Sample), s.trigPending = true → handlerFits s.params s.cpt = true → s.mode = .exc →
    exec (.tick x) s = .next
      { s with
        outCode := excCode s.params s.tickCount
        tickCount := s.tickCount + 1#32
        trigPending := false
        completed := if s.tickCount.toNat + 1 ≥ s.tt.toNat then true else s.completed
        trigArmed := if s.tickCount.toNat + 1 ≥ s.tt.toNat then s.trigArmed else true
        trigLoad := if s.tickCount.toNat + 1 ≥ s.tt.toNat then s.trigLoad else s.cpt
        response := .none }

/-- A TICK whose handler does not fit records TickOverrun and does nothing else (R316, R172). With TRIG_PENDING = 1
and HANDLER_FITS(CPT) false, TICK(s) only adds TickOverrun with CPT to FAULTS, and its result is that fault;
TRIG_PENDING stays 1. With TRIG_PENDING = 0 a TICK is not enabled and is refused by name (log 13). -/
def Obligations.OverrunTickRecordsTheFaultOnly : Prop :=
  ∀ (s : State) (x : Sample),
    (s.trigPending = true → handlerFits s.params s.cpt = false →
      exec (.tick x) s = .next
        { s with faults := s.faults ++ [.tickOverrun s.cpt], response := .fault (.tickOverrun s.cpt) }) ∧
    (s.trigPending = false → exec (.tick x) s = .refused .tickNotEnabled)

/-- RESET is enabled in every state and gives every element its reset value, FAULTS and the parameters kept (R350,
R317). RESET completes in every state; every register has the spec's reset value, STATUS reads 1, FAULTS and the
parameters are unchanged, and what is still scheduled stays. Nothing is said of RB_MEM's contents (log 8); the
model's own fields are log 22. -/
def Obligations.ResetGivesTheResetValues : Prop :=
  ∀ s : State, ∃ t, exec .reset s = .next t ∧
    t.argFreq = 0#32 ∧ t.argDur = 0#32 ∧ t.cpt = 0#32 ∧ t.tt = 0#32 ∧ t.tickCount = 0#32 ∧ t.mode = .exc ∧
    t.completed = true ∧ t.result = .ok ∧ t.cfgCause = .none ∧ t.trigArmed = false ∧ t.trigLoad = 0#32 ∧
    t.trigPending = false ∧ t.rbWidx = 0 ∧ t.rbRidx = 0 ∧ t.ovrCount = 0#32 ∧ t.outCode = 0#32 ∧
    t.statusWord = 0x00000001#32 ∧ t.faults = s.faults ∧ t.params = s.params ∧ t.schedule = s.schedule

/-- CLEAN_IDLE holds after a RESET exactly from a fault-free state (R366, R350, R317). A RESET gives a state with
CLEAN_IDLE if and only if FAULTS was empty before it. -/
def Obligations.ResetRestoresCleanIdle : Prop :=
  ∀ s : State, ∃ t, exec .reset s = .next t ∧ (t.CleanIdle ↔ s.faults = []) ∧
    (∀ u : State, u.CleanIdle ↔ (u.faults = [] ∧ u.completed = true ∧ u.trigArmed = false ∧
      u.trigPending = false ∧ u.rbWidx = u.rbRidx))

/-! ## Invariants of every step -/

/-- Every step keeps the sequencer's invariant (R180, R182, R175, R24, R181). From every state with the control
invariant (a sequence runs iff the trigger is armed or pending, never both; TICK_COUNT ≤ TT, < TT while running,
= TT when idle; an armed trigger holds CPT; MIN_CPT ≤ CPT while running), any step that completes, whatever is
scheduled, gives a state with it. -/
def Obligations.StepKeepsTheControlInvariant : Prop :=
  ∀ s t : State, s.ControlInv → step s = .next t → t.ControlInv

/-- Every step keeps the ring buffer's invariant (R32, R33, R75, R238). For RB_N ≥ 2, from every state whose indices
are slots, whose RB_MEM is canonical and holds slots only, and whose unread slots were all written since RESET,
any step that completes gives such a state. -/
def Obligations.StepKeepsTheRingInvariant : Prop :=
  ∀ s t : State, 2 ≤ s.params.rbN → s.RingInv → step s = .next t → t.RingInv

/-- Every step keeps OUT_CODE inside PERM and CFG_CAUSE in step with RESULT (R35, R97, R205). Any step that
completes from a state in which only PERM bits of OUT_CODE are 1 gives such a state; and from a state in which
CFG_CAUSE is 0 exactly when RESULT is not CFG_ERR gives such a state. -/
def Obligations.StepKeepsOutputAndOutcome : Prop :=
  ∀ s t : State, step s = .next t → (s.OutputInv → t.OutputInv) ∧ (s.OutcomeInv → t.OutcomeInv)

/-- The reset state meets all four invariants, and with the model's empty FAULTS also CLEAN_IDLE (R350, R352). For
every instance with RB_N ≥ 1, the state after reset has the control, ring, output and outcome invariants; so has
State.reset. It is CLEAN_IDLE too: that FAULTS is empty in it, as CLEAN_IDLE asks, is the model's choice (log
22), for R350 leaves FAULTS as it was. -/
def Obligations.ResetStateMeetsTheInvariants : Prop :=
  (∀ p : Params, 1 ≤ p.rbN → (State.resetWith p).ControlInv ∧ (State.resetWith p).RingInv ∧
    (State.resetWith p).OutputInv ∧ (State.resetWith p).OutcomeInv ∧ (State.resetWith p).CleanIdle) ∧
  State.reset = State.resetWith Config.block ∧ 1 ≤ Config.block.rbN

/-- No step removes a fault or changes a parameter (R317, R39, R41). Any step that completes leaves the parameters
as they are and FAULTS with all its members, in their order, RESET included. -/
def Obligations.FaultsOnlyGrowAndParamsStay : Prop :=
  ∀ s t : State, step s = .next t → t.params = s.params ∧ s.faults <+: t.faults

/-- Under the ring invariant no step ends in a fault (R75, R310, R315). From a state with the ring invariant, step
never answers a fault: the one fault, a slot index outside [0, RB_N), cannot be reached (log 16). -/
def Obligations.NoStepFaultsUnderTheRingInvariant : Prop :=
  ∀ (s : State) (r : Fault), s.RingInv → step s ≠ .fault r

/-! ## Rules over the whole block -/

/-- Each element is changed only by the operations that own it (R40, R200, R234, R351, R203, R172). For every
operation that completes: ARG_FREQ and ARG_DUR change only by their write or RESET; CPT, TT and MODE only by
BEGIN or RESET; TICK_COUNT and COMPLETED only by BEGIN, TICK or RESET; RESULT and CFG_CAUSE only by a CMD write
or RESET; RB_MEM, RB_WIDX and OVR_COUNT only by TICK or RESET; RB_RIDX only by RD_RB_DATA or RESET; OUT_CODE
only by TICK or RESET; the trigger only by BEGIN, FIRE, TICK or RESET, TRIG_PENDING not by BEGIN. -/
def Obligations.EachFieldHasItsWriters : Prop :=
  ∀ (i : Instr) (s t : State), exec i s = .next t → i ≠ .reset →
    ((∀ d, i ≠ .wrArgFreq d) → t.argFreq = s.argFreq) ∧
    ((∀ d, i ≠ .wrArgDur d) → t.argDur = s.argDur) ∧
    (i ≠ .beginExc → i ≠ .beginAcq →
      t.cpt = s.cpt ∧ t.tt = s.tt ∧ t.mode = s.mode ∧
      ((∀ d, i ≠ .cmdIllegal d) → t.result = s.result ∧ t.cfgCause = s.cfgCause) ∧
      ((∀ x, i ≠ .tick x) → t.tickCount = s.tickCount ∧ t.completed = s.completed ∧
        (i ≠ .fire → t.trigArmed = s.trigArmed ∧ t.trigLoad = s.trigLoad))) ∧
    ((∀ x, i ≠ .tick x) → t.rbMem = s.rbMem ∧ t.rbWidx = s.rbWidx ∧ t.ovrCount = s.ovrCount ∧
      t.outCode = s.outCode ∧ (i ≠ .fire → t.trigPending = s.trigPending)) ∧
    (i ≠ .rdRbData → t.rbRidx = s.rbRidx) ∧
    t.params = s.params ∧ t.schedule = s.schedule ∧ t.inputDraws = s.inputDraws ∧ t.rbDraws = s.rbDraws

/-- MODE, CPT and TT are constant while a sequence runs (R179). While COMPLETED = 0, every operation but RESET that
completes leaves MODE, and with it CPT and TT, as they are; a BEGIN there returns BUSY. In any state an
operation other than RESET that changes MODE is a BEGIN that reports OK. -/
def Obligations.ModeAndRateAreFixedInASequence : Prop :=
  ∀ (i : Instr) (s t : State), i ≠ .reset → exec i s = .next t →
    (s.completed = false → t.mode = s.mode ∧ t.cpt = s.cpt ∧ t.tt = s.tt ∧
      (i = .beginExc ∨ i = .beginAcq → t.result = .busy)) ∧
    (t.mode ≠ s.mode → (i = .beginExc ∨ i = .beginAcq) ∧ t.result = .ok)

/-- An acquisition TICK drives no output and an excitation TICK touches no sample (R178). A TICK that completes with
MODE = ACQ leaves OUT_CODE unchanged; with MODE = EXC it leaves RB_MEM, RB_WIDX and OVR_COUNT unchanged, and its
result does not depend on the draw. -/
def Obligations.ModesAreIsolated : Prop :=
  ∀ (s t : State) (x : Sample), exec (.tick x) s = .next t →
    (s.mode = .acq → t.outCode = s.outCode) ∧
    (s.mode = .exc → t.rbMem = s.rbMem ∧ t.rbWidx = s.rbWidx ∧ t.ovrCount = s.ovrCount ∧
      ∀ y, exec (.tick y) s = .next t)

/-- While COMPLETED = 1 no FIRE and no TICK is enabled (R180, R352, R364). From a state with the control invariant
and COMPLETED = 1, FIRE and TICK are refused as not enabled, and with nothing scheduled the block makes no step. -/
def Obligations.IdleBlockIsQuiet : Prop :=
  ∀ (s : State) (x : Sample), s.ControlInv → s.completed = true →
    exec .fire s = .refused .fireNotEnabled ∧ exec (.tick x) s = .refused .tickNotEnabled ∧
    (s.schedule = [] → step s = .refused .quiescent)

/-- The order of a FIRE against a bus access cannot be observed (R321, R180). While a sequence runs, for every bus
operation: if it completes before the FIRE with state t, the FIRE is still enabled after it, and taken after the
FIRE it gives the same response and t with the trigger fired. -/
def Obligations.FireCommutesWithBusAccesses : Prop :=
  ∀ (i : Instr) (s t : State), s.completed = false → s.trigArmed = true →
    i ≠ .reset → i ≠ .fire → (∀ x, i ≠ .tick x) → exec i s = .next t →
    exec .fire t = .next { t with trigArmed := false, trigPending := true, response := .none } ∧
    ∃ u, exec .fire s = .next u ∧ exec i u = .next { t with trigArmed := false, trigPending := true }

/-- TRIG_LOAD affects no response and no other element (R30, R183). For every operation: changing TRIG_LOAD before
it changes nothing after it but TRIG_LOAD. -/
def Obligations.TriggerLoadIsNotObservable : Prop :=
  ∀ (i : Instr) (s t : State) (c : Word), exec i s = .next t →
    ∃ d : Word, exec i { s with trigLoad := c } = .next { t with trigLoad := d }

/-- A sequence started with TT = T takes exactly T ticks and then is complete (R181, R171, R182). From the state t
after a BEGIN that started a sequence from an idle state with the invariants, with T = TT prompt FIRE and TICK
pairs scheduled, any draws, and the handler fitting: after k < T pairs COMPLETED = 0 and TICK_COUNT = k; after T
pairs COMPLETED = 1, TICK_COUNT = TT = T, the trigger is quiet and FAULTS is as it was. -/
def Obligations.StartedSequenceTakesExactlyTtTicks : Prop :=
  ∀ (s t : State) (i : Instr) (xs : List Sample) (rest : List Label), i ∈ [.beginExc, .beginAcq] →
    2 ≤ s.params.rbN → s.ControlInv → s.RingInv → s.completed = true →
    exec i s = .next t → t.completed = false → handlerFits t.params t.cpt = true → xs.length = t.tt.toNat →
    t.schedule = (xs.flatMap fun x => [.evt 0x1#4 0#16, .evt 0x2#4 x]) ++ rest →
    (∀ k < xs.length, ∃ u, Sys2Proof.core.run (2 * k) t = .next u ∧ u.completed = false ∧ u.tickCount.toNat = k) ∧
    ∃ u, Sys2Proof.core.run (2 * xs.length) t = .next u ∧ u.completed = true ∧ u.tickCount = t.tt ∧ u.tt = t.tt ∧
      u.trigArmed = false ∧ u.trigPending = false ∧ u.schedule = rest ∧ u.faults = s.faults

/-- In every weakly fair execution a running sequence completes, unless it faults or is reset (R184, R172, R181,
R182). For every infinite execution of operations, in any order, that is weakly fair (an armed trigger is
eventually followed by FIRE, a pending one by TICK), records no fault and has no RESET: if it starts in a state
with the control invariant and COMPLETED = 0, some later state has COMPLETED = 1 with TICK_COUNT = TT, and TT is
the TT of the start. -/
def Obligations.FairExecutionCompletesTheSequence : Prop :=
  ∀ (st : Nat → State) (op : Nat → Instr), Executes st op → WeaklyFair st op → (∀ n, (st n).faults = []) →
    (∀ n, op n ≠ .reset) → (st 0).ControlInv → (st 0).completed = false →
    ∃ n, (st n).completed = true ∧ (st n).tickCount = (st n).tt ∧ (st n).tt = (st 0).tt

/-- An excitation drives exc_code(0), exc_code(1), ... in order, and an acquisition pushes its draws in order (R185,
R242, R363). After a BEGIN that started a sequence, with prompt FIRE and TICK pairs: in excitation, after the
k-th pair OUT_CODE is exc_code(k - 1) and the ring buffer is as it was; in acquisition, after all pairs the ring
buffer is the one that pushing the draws in TICK order gives, and OUT_CODE is as it was. -/
def Obligations.SequenceOutputIsFixedByTheTickNumber : Prop :=
  ∀ (s t : State) (i : Instr) (xs : List Sample) (rest : List Label),
    2 ≤ s.params.rbN → s.ControlInv → s.RingInv → s.completed = true →
    exec i s = .next t → t.completed = false → handlerFits t.params t.cpt = true → xs.length = t.tt.toNat →
    t.schedule = (xs.flatMap fun x => [.evt 0x1#4 0#16, .evt 0x2#4 x]) ++ rest →
    (i = .beginExc → ∀ k < xs.length, ∃ u, Sys2Proof.core.run (2 * (k + 1)) t = .next u ∧
      u.outCode = excCode s.params (BitVec.ofNat 32 k) ∧ u.rbMem = s.rbMem ∧ u.rbWidx = s.rbWidx ∧
      u.rbRidx = s.rbRidx ∧ u.ovrCount = s.ovrCount) ∧
    (i = .beginAcq → ∃ u v, Sys2Proof.core.run (2 * xs.length) t = .next u ∧
      xs.foldlM State.rbPush s = some v ∧ u.rbMem = v.rbMem ∧ u.rbWidx = v.rbWidx ∧ u.rbRidx = s.rbRidx ∧
      u.ovrCount = v.ovrCount ∧ u.outCode = s.outCode)

/-! ## The ring buffer as a queue -/

/-- A push appends to the unread samples, or laps and leaves none (R235, R236, R231, R232). For RB_N ≥ 2 and a state
with the ring invariant, an acquisition TICK(s) with a fitting handler completes, at most RB_N - 1 samples were
unread, and: with fewer, the unread samples become the old ones followed by s and OVR_COUNT stays; with RB_N -
1, none is unread and OVR_COUNT counts one lap. -/
def Obligations.PushAppendsOrLaps : Prop :=
  ∀ (s : State) (x : Sample), 2 ≤ s.params.rbN → s.RingInv → s.trigPending = true →
    handlerFits s.params s.cpt = true → s.mode = .acq →
    ∃ t, exec (.tick x) s = .next t ∧ s.unread.length ≤ s.params.rbN - 1 ∧
      (s.unread.length < s.params.rbN - 1 → t.unread = s.unread ++ [x] ∧ t.ovrCount = s.ovrCount) ∧
      (s.unread.length = s.params.rbN - 1 → t.unread = [] ∧ t.ovrCount = s.ovrCount + 1#32)

/-- A pop returns and removes the oldest unread sample, and an empty buffer gives VALID = 0 (R236, R235, R95, R38).
For a state with the ring invariant RD_RB_DATA completes: with unread samples x, xs it answers VALID = 1 and x
and leaves xs unread; with none it answers 0 and leaves none; STATUS.AVAIL says which. -/
def Obligations.PopReturnsTheOldestUnread : Prop :=
  ∀ s : State, s.RingInv → ∃ t v, exec .rdRbData s = .next t ∧ t.response = .data v ∧
    (∀ x xs, s.unread = x :: xs →
      v.getLsbD 31 = true ∧ v.extractLsb' 16 15 = 0#15 ∧ v.extractLsb' 0 16 = x ∧ t.unread = xs ∧
      s.statusWord.getLsbD 2 = true) ∧
    (s.unread = [] → v = 0#32 ∧ t.unread = [] ∧ s.statusWord.getLsbD 2 = false)

/-- K pushes into an empty buffer leave the last K mod RB_N samples readable and K div RB_N laps (R237). For RB_N ≥
2 and an empty buffer with the ring invariant, K pushes with no pop between them complete, the readable samples
are the last K mod RB_N of them, oldest first, and OVR_COUNT has increased by K div RB_N (mod 2^32). -/
def Obligations.UnreadPushesAreTruncated : Prop :=
  ∀ (s : State) (xs : List Sample), 2 ≤ s.params.rbN → s.RingInv → s.rbWidx = s.rbRidx →
    ∃ t, xs.foldlM State.rbPush s = some t ∧
      t.unread = xs.drop (xs.length - xs.length % s.params.rbN) ∧
      t.unread.length = xs.length % s.params.rbN ∧
      t.ovrCount = s.ovrCount + BitVec.ofNat 32 (xs.length / s.params.rbN)

/-! ## Parameters, bus words and the host's side -/

/-- The block's own parameters are well-formed, and an ill-formed instance is refused (R7, R121). Whatever the OPEN
values are, the block's parameters are well-formed, PERM injective among them; and configuring an instance
succeeds exactly for well-formed parameters, so an injectivity violation is refused (log 18). -/
def Obligations.BlockParametersAreWellFormed : Prop :=
  Config.block.wf = true ∧
  (∀ p : Params, (State.configure p = .ok (State.resetWith p) ↔ p.wf = true) ∧
    (¬ p.perm.toList.Nodup → State.configure p = .error .illFormedParams))

/-- Byte lane k of a bus word is its bits [8k+7:8k], and the four lanes give the word back (R63). For every 32-bit
word: bit b of lane k is bit 8k + b of the word, and the word of its four lanes is the word. -/
def Obligations.BusWordIsLittleEndian : Prop :=
  ∀ v : Word, wordOfLanes (byteLane v 0) (byteLane v 1) (byteLane v 2) (byteLane v 3) = v ∧
    ∀ (k : Fin 4) (b : Nat), b < 8 → (byteLane v k).getLsbD b = v.getLsbD (8 * k.val + b)

/-- The sample stream carries every value as two bytes, low byte first, framed by FF FF (R291, R292, R297). For
every list of values the stream's bytes read back as the values, the bytes of a framed acquisition are FF FF,
the samples' bytes, FF FF, 2K + 4 bytes in all, and each value's bytes are its low and its high byte; a sample
of 0xFFFF is sent like any other. -/
def Obligations.StreamBytesAreLowByteFirst : Prop :=
  ∀ (xs : List Sample) (v : Sample),
    streamValues (streamBytes xs) = xs ∧
    streamBytes (v :: xs) = v.extractLsb' 0 8 :: v.extractLsb' 8 8 :: streamBytes xs ∧
    streamBytes (frame xs) = [0xFF#8, 0xFF#8] ++ streamBytes xs ++ [0xFF#8, 0xFF#8] ∧
    (streamBytes (frame xs)).length = 2 * xs.length + 4

/-- With no overrun ACQUIRE_AND_STREAM streams exactly the acquisition's draws, framed (R293, R294, R292, R236). For
RB_N ≥ 2, from a CLEAN_IDLE block with the invariants, in any interleaving of host transactions, FIREs and TICKs
in which no fault is recorded and OVR_COUNT reads the same before and after: if the host's procedure finishes,
its stream is the sentinel, the draws of all TICKs in order, and the sentinel, and there were TT of them. -/
def Obligations.AcquireStreamsEverySample : Prop :=
  ∀ (s : State) (f d : Word) (ms : List Move) (z : System), 2 ≤ s.params.rbN → s.ControlInv → s.RingInv →
    s.CleanIdle → Move.reset ∉ ms →
    System.moves { block := s, host := HostState.acquire f d } ms = .next z →
    z.host.phase = .finished → z.block.faults = [] → z.host.ovr1 = z.host.ovr0 →
    let draws := ms.filterMap fun m => match m with | .tick x => some x | _ => none
    z.host.stream = frame draws ∧ draws.length = z.block.tt.toNat

/-! ## The API calls, the command surface and the end of a run -/

/-- A begin call is three writes and a STATUS read that gives the outcome, and is_complete is a STATUS read's bit 0
(R290, R102, R200, R208). From every state, a host whose program is begin_excitation(f, d) or
begin_acquisition(f, d) makes it in four uninterrupted transactions: the block is as after BEGIN with ARG_FREQ =
f and ARG_DUR = d, the last response is its STATUS, and the call returns the codes of its RESULT and CFG_CAUSE.
is_complete() takes one transaction, returns COMPLETED and changes nothing of the block but the response. -/
def Obligations.ApiCallsReportTheOutcome : Prop :=
  ∀ (s : State) (f d : Word),
    (∀ (c : HostCall) (i : Instr), (c, i) ∈ [(.beginExcitation f d, .beginExc), (.beginAcquisition f d, .beginAcq)] →
      ∃ t z, exec i { s with argFreq := f, argDur := d } = .next t ∧
        System.moves { block := s, host := HostState.program [c] } (List.replicate 4 .host) = .next z ∧
        z.block = { t with response := .data t.statusWord } ∧ z.host.over = true ∧
        z.host.results = [.begun t.result.code t.cfgCause.code]) ∧
    ∃ z, System.moves { block := s, host := HostState.program [.isComplete] } [.host] = .next z ∧
      z.block = { s with response := .data s.statusWord } ∧ z.host.over = true ∧
      z.host.results = [.complete s.completed]

/-- drain_available_samples returns the unread samples, oldest first, and leaves the buffer empty (R290, R102, R233,
R236). From every state with the ring invariant, with n samples unread, a host whose program is
drain_available_samples() makes it in n + 1 uninterrupted transactions: it returns the n samples, oldest first;
RB_RIDX is then RB_WIDX, the last response is 0, and nothing else of the block changed. -/
def Obligations.DrainCallReturnsTheUnreadSamples : Prop :=
  ∀ s : State, s.RingInv →
    ∃ z, System.moves { block := s, host := HostState.program [.drainAvailableSamples] }
        (List.replicate (s.unread.length + 1) .host) = .next z ∧
      z.block = { s with rbRidx := s.rbWidx, response := .data 0#32 } ∧ z.host.over = true ∧
      z.host.results = [.samples s.unread]

/-- A command that parses runs EXPERIMENT, and any other gives an error message and no transaction (R296). For every
command text: either PARSE gives two durations and the host is EXPERIMENT's with them, or PARSE gives none and
the host emits an error message, is over, and however often its turn comes the block stays as it is. That the
message is a free value of the text is the model's choice (log 21). -/
def Obligations.MalformedCommandReachesNoBlock : Prop :=
  ∀ text : String,
    (∃ pulseMs readMs, Config.parse text = some (pulseMs, readMs) ∧
      HostState.command text = HostState.experiment pulseMs readMs) ∨
    (Config.parse text = none ∧ (HostState.command text).message = some (Config.errorMessage text) ∧
      (HostState.command text).over = true ∧
      ∀ (s : State) (n : Nat), System.moves { block := s, host := HostState.command text } (List.replicate n .host) =
        .next { block := s, host := HostState.command text })

/-- A finished ACQUIRE_AND_STREAM has reached the end of its run, where only RESET or a new host access acts (R364,
R294, R180). From every block with the control invariant, in any interleaving of ACQUIRE_AND_STREAM with FIREs
and TICKs without RESET: if the host finishes and no fault is recorded, some prefix of the moves ends the run in
that same system, the first with the four items of R364, and its final drain found the buffer empty after
COMPLETED = 1. In any run end FIRE and TICK are not enabled, and the host, whose program is over, changes
nothing. -/
def Obligations.FinishedAcquisitionEndsItsRun : Prop :=
  (∀ (s : State) (f d : Word) (ms : List Move) (z : System), s.ControlInv → Move.reset ∉ ms →
    System.moves { block := s, host := HostState.acquire f d } ms = .next z →
    z.host.phase = .finished → z.block.faults = [] →
    ∃ ns, ns <+: ms ∧ System.StreamEndsIn { block := s, host := HostState.acquire f d } ns z) ∧
  ∀ (y : System) (x : Sample), y.RunEnd →
    y.move .fire = .refused .fireNotEnabled ∧ y.move (.tick x) = .refused .tickNotEnabled ∧ y.move .host = .next y
end

