-- ==== Sys2Proof/Laws/State.lean ====
section
/-! SUPPORT. What each update of the state does to each field: one lemma a field and update, all by rfl. -/

namespace Sys2Proof.Machine

section
variable (s : State) (r : Response)
@[simp] theorem State.respond_params : (s.respond r).params = s.params := rfl
@[simp] theorem State.respond_argFreq : (s.respond r).argFreq = s.argFreq := rfl
@[simp] theorem State.respond_argDur : (s.respond r).argDur = s.argDur := rfl
@[simp] theorem State.respond_cpt : (s.respond r).cpt = s.cpt := rfl
@[simp] theorem State.respond_tt : (s.respond r).tt = s.tt := rfl
@[simp] theorem State.respond_tickCount : (s.respond r).tickCount = s.tickCount := rfl
@[simp] theorem State.respond_mode : (s.respond r).mode = s.mode := rfl
@[simp] theorem State.respond_completed : (s.respond r).completed = s.completed := rfl
@[simp] theorem State.respond_result : (s.respond r).result = s.result := rfl
@[simp] theorem State.respond_cfgCause : (s.respond r).cfgCause = s.cfgCause := rfl
@[simp] theorem State.respond_trigArmed : (s.respond r).trigArmed = s.trigArmed := rfl
@[simp] theorem State.respond_trigLoad : (s.respond r).trigLoad = s.trigLoad := rfl
@[simp] theorem State.respond_trigPending : (s.respond r).trigPending = s.trigPending := rfl
@[simp] theorem State.respond_rbMem : (s.respond r).rbMem = s.rbMem := rfl
@[simp] theorem State.respond_rbWidx : (s.respond r).rbWidx = s.rbWidx := rfl
@[simp] theorem State.respond_rbRidx : (s.respond r).rbRidx = s.rbRidx := rfl
@[simp] theorem State.respond_ovrCount : (s.respond r).ovrCount = s.ovrCount := rfl
@[simp] theorem State.respond_outCode : (s.respond r).outCode = s.outCode := rfl
@[simp] theorem State.respond_faults : (s.respond r).faults = s.faults := rfl
@[simp] theorem State.respond_response : (s.respond r).response = r := rfl
@[simp] theorem State.respond_schedule : (s.respond r).schedule = s.schedule := rfl
@[simp] theorem State.respond_inputDraws : (s.respond r).inputDraws = s.inputDraws := rfl
@[simp] theorem State.respond_rbDraws : (s.respond r).rbDraws = s.rbDraws := rfl
end

section
variable (s : State) (f : FaultRec)
@[simp] theorem State.raise_params : (s.raise f).params = s.params := rfl
@[simp] theorem State.raise_argFreq : (s.raise f).argFreq = s.argFreq := rfl
@[simp] theorem State.raise_argDur : (s.raise f).argDur = s.argDur := rfl
@[simp] theorem State.raise_cpt : (s.raise f).cpt = s.cpt := rfl
@[simp] theorem State.raise_tt : (s.raise f).tt = s.tt := rfl
@[simp] theorem State.raise_tickCount : (s.raise f).tickCount = s.tickCount := rfl
@[simp] theorem State.raise_mode : (s.raise f).mode = s.mode := rfl
@[simp] theorem State.raise_completed : (s.raise f).completed = s.completed := rfl
@[simp] theorem State.raise_result : (s.raise f).result = s.result := rfl
@[simp] theorem State.raise_cfgCause : (s.raise f).cfgCause = s.cfgCause := rfl
@[simp] theorem State.raise_trigArmed : (s.raise f).trigArmed = s.trigArmed := rfl
@[simp] theorem State.raise_trigLoad : (s.raise f).trigLoad = s.trigLoad := rfl
@[simp] theorem State.raise_trigPending : (s.raise f).trigPending = s.trigPending := rfl
@[simp] theorem State.raise_rbMem : (s.raise f).rbMem = s.rbMem := rfl
@[simp] theorem State.raise_rbWidx : (s.raise f).rbWidx = s.rbWidx := rfl
@[simp] theorem State.raise_rbRidx : (s.raise f).rbRidx = s.rbRidx := rfl
@[simp] theorem State.raise_ovrCount : (s.raise f).ovrCount = s.ovrCount := rfl
@[simp] theorem State.raise_outCode : (s.raise f).outCode = s.outCode := rfl
@[simp] theorem State.raise_faults : (s.raise f).faults = s.faults ++ [f] := rfl
@[simp] theorem State.raise_response : (s.raise f).response = .fault f := rfl
@[simp] theorem State.raise_schedule : (s.raise f).schedule = s.schedule := rfl
@[simp] theorem State.raise_inputDraws : (s.raise f).inputDraws = s.inputDraws := rfl
@[simp] theorem State.raise_rbDraws : (s.raise f).rbDraws = s.rbDraws := rfl
end

section
variable (s : State) (c : Word)
@[simp] theorem State.arm_params : (s.arm c).params = s.params := rfl
@[simp] theorem State.arm_argFreq : (s.arm c).argFreq = s.argFreq := rfl
@[simp] theorem State.arm_argDur : (s.arm c).argDur = s.argDur := rfl
@[simp] theorem State.arm_cpt : (s.arm c).cpt = s.cpt := rfl
@[simp] theorem State.arm_tt : (s.arm c).tt = s.tt := rfl
@[simp] theorem State.arm_tickCount : (s.arm c).tickCount = s.tickCount := rfl
@[simp] theorem State.arm_mode : (s.arm c).mode = s.mode := rfl
@[simp] theorem State.arm_completed : (s.arm c).completed = s.completed := rfl
@[simp] theorem State.arm_result : (s.arm c).result = s.result := rfl
@[simp] theorem State.arm_cfgCause : (s.arm c).cfgCause = s.cfgCause := rfl
@[simp] theorem State.arm_trigArmed : (s.arm c).trigArmed = true := rfl
@[simp] theorem State.arm_trigLoad : (s.arm c).trigLoad = c := rfl
@[simp] theorem State.arm_trigPending : (s.arm c).trigPending = s.trigPending := rfl
@[simp] theorem State.arm_rbMem : (s.arm c).rbMem = s.rbMem := rfl
@[simp] theorem State.arm_rbWidx : (s.arm c).rbWidx = s.rbWidx := rfl
@[simp] theorem State.arm_rbRidx : (s.arm c).rbRidx = s.rbRidx := rfl
@[simp] theorem State.arm_ovrCount : (s.arm c).ovrCount = s.ovrCount := rfl
@[simp] theorem State.arm_outCode : (s.arm c).outCode = s.outCode := rfl
@[simp] theorem State.arm_faults : (s.arm c).faults = s.faults := rfl
@[simp] theorem State.arm_response : (s.arm c).response = s.response := rfl
@[simp] theorem State.arm_schedule : (s.arm c).schedule = s.schedule := rfl
@[simp] theorem State.arm_inputDraws : (s.arm c).inputDraws = s.inputDraws := rfl
@[simp] theorem State.arm_rbDraws : (s.arm c).rbDraws = s.rbDraws := rfl
end

section
variable (s : State)
@[simp] theorem State.acknowledge_params : (s.acknowledge).params = s.params := rfl
@[simp] theorem State.acknowledge_argFreq : (s.acknowledge).argFreq = s.argFreq := rfl
@[simp] theorem State.acknowledge_argDur : (s.acknowledge).argDur = s.argDur := rfl
@[simp] theorem State.acknowledge_cpt : (s.acknowledge).cpt = s.cpt := rfl
@[simp] theorem State.acknowledge_tt : (s.acknowledge).tt = s.tt := rfl
@[simp] theorem State.acknowledge_tickCount : (s.acknowledge).tickCount = s.tickCount := rfl
@[simp] theorem State.acknowledge_mode : (s.acknowledge).mode = s.mode := rfl
@[simp] theorem State.acknowledge_completed : (s.acknowledge).completed = s.completed := rfl
@[simp] theorem State.acknowledge_result : (s.acknowledge).result = s.result := rfl
@[simp] theorem State.acknowledge_cfgCause : (s.acknowledge).cfgCause = s.cfgCause := rfl
@[simp] theorem State.acknowledge_trigArmed : (s.acknowledge).trigArmed = s.trigArmed := rfl
@[simp] theorem State.acknowledge_trigLoad : (s.acknowledge).trigLoad = s.trigLoad := rfl
@[simp] theorem State.acknowledge_trigPending : (s.acknowledge).trigPending = false := rfl
@[simp] theorem State.acknowledge_rbMem : (s.acknowledge).rbMem = s.rbMem := rfl
@[simp] theorem State.acknowledge_rbWidx : (s.acknowledge).rbWidx = s.rbWidx := rfl
@[simp] theorem State.acknowledge_rbRidx : (s.acknowledge).rbRidx = s.rbRidx := rfl
@[simp] theorem State.acknowledge_ovrCount : (s.acknowledge).ovrCount = s.ovrCount := rfl
@[simp] theorem State.acknowledge_outCode : (s.acknowledge).outCode = s.outCode := rfl
@[simp] theorem State.acknowledge_faults : (s.acknowledge).faults = s.faults := rfl
@[simp] theorem State.acknowledge_response : (s.acknowledge).response = s.response := rfl
@[simp] theorem State.acknowledge_schedule : (s.acknowledge).schedule = s.schedule := rfl
@[simp] theorem State.acknowledge_inputDraws : (s.acknowledge).inputDraws = s.inputDraws := rfl
@[simp] theorem State.acknowledge_rbDraws : (s.acknowledge).rbDraws = s.rbDraws := rfl
end

section
variable (s : State)
@[simp] theorem State.expire_params : (s.expire).params = s.params := rfl
@[simp] theorem State.expire_argFreq : (s.expire).argFreq = s.argFreq := rfl
@[simp] theorem State.expire_argDur : (s.expire).argDur = s.argDur := rfl
@[simp] theorem State.expire_cpt : (s.expire).cpt = s.cpt := rfl
@[simp] theorem State.expire_tt : (s.expire).tt = s.tt := rfl
@[simp] theorem State.expire_tickCount : (s.expire).tickCount = s.tickCount := rfl
@[simp] theorem State.expire_mode : (s.expire).mode = s.mode := rfl
@[simp] theorem State.expire_completed : (s.expire).completed = s.completed := rfl
@[simp] theorem State.expire_result : (s.expire).result = s.result := rfl
@[simp] theorem State.expire_cfgCause : (s.expire).cfgCause = s.cfgCause := rfl
@[simp] theorem State.expire_trigArmed : (s.expire).trigArmed = false := rfl
@[simp] theorem State.expire_trigLoad : (s.expire).trigLoad = s.trigLoad := rfl
@[simp] theorem State.expire_trigPending : (s.expire).trigPending = true := rfl
@[simp] theorem State.expire_rbMem : (s.expire).rbMem = s.rbMem := rfl
@[simp] theorem State.expire_rbWidx : (s.expire).rbWidx = s.rbWidx := rfl
@[simp] theorem State.expire_rbRidx : (s.expire).rbRidx = s.rbRidx := rfl
@[simp] theorem State.expire_ovrCount : (s.expire).ovrCount = s.ovrCount := rfl
@[simp] theorem State.expire_outCode : (s.expire).outCode = s.outCode := rfl
@[simp] theorem State.expire_faults : (s.expire).faults = s.faults := rfl
@[simp] theorem State.expire_response : (s.expire).response = s.response := rfl
@[simp] theorem State.expire_schedule : (s.expire).schedule = s.schedule := rfl
@[simp] theorem State.expire_inputDraws : (s.expire).inputDraws = s.inputDraws := rfl
@[simp] theorem State.expire_rbDraws : (s.expire).rbDraws = s.rbDraws := rfl
end

section
variable (s : State) (code : Word)
@[simp] theorem State.outputWrite_params : (s.outputWrite code).params = s.params := rfl
@[simp] theorem State.outputWrite_argFreq : (s.outputWrite code).argFreq = s.argFreq := rfl
@[simp] theorem State.outputWrite_argDur : (s.outputWrite code).argDur = s.argDur := rfl
@[simp] theorem State.outputWrite_cpt : (s.outputWrite code).cpt = s.cpt := rfl
@[simp] theorem State.outputWrite_tt : (s.outputWrite code).tt = s.tt := rfl
@[simp] theorem State.outputWrite_tickCount : (s.outputWrite code).tickCount = s.tickCount := rfl
@[simp] theorem State.outputWrite_mode : (s.outputWrite code).mode = s.mode := rfl
@[simp] theorem State.outputWrite_completed : (s.outputWrite code).completed = s.completed := rfl
@[simp] theorem State.outputWrite_result : (s.outputWrite code).result = s.result := rfl
@[simp] theorem State.outputWrite_cfgCause : (s.outputWrite code).cfgCause = s.cfgCause := rfl
@[simp] theorem State.outputWrite_trigArmed : (s.outputWrite code).trigArmed = s.trigArmed := rfl
@[simp] theorem State.outputWrite_trigLoad : (s.outputWrite code).trigLoad = s.trigLoad := rfl
@[simp] theorem State.outputWrite_trigPending : (s.outputWrite code).trigPending = s.trigPending := rfl
@[simp] theorem State.outputWrite_rbMem : (s.outputWrite code).rbMem = s.rbMem := rfl
@[simp] theorem State.outputWrite_rbWidx : (s.outputWrite code).rbWidx = s.rbWidx := rfl
@[simp] theorem State.outputWrite_rbRidx : (s.outputWrite code).rbRidx = s.rbRidx := rfl
@[simp] theorem State.outputWrite_ovrCount : (s.outputWrite code).ovrCount = s.ovrCount := rfl
@[simp] theorem State.outputWrite_outCode : (s.outputWrite code).outCode = code := rfl
@[simp] theorem State.outputWrite_faults : (s.outputWrite code).faults = s.faults := rfl
@[simp] theorem State.outputWrite_response : (s.outputWrite code).response = s.response := rfl
@[simp] theorem State.outputWrite_schedule : (s.outputWrite code).schedule = s.schedule := rfl
@[simp] theorem State.outputWrite_inputDraws : (s.outputWrite code).inputDraws = s.inputDraws := rfl
@[simp] theorem State.outputWrite_rbDraws : (s.outputWrite code).rbDraws = s.rbDraws := rfl
end

section
variable (s : State)
@[simp] theorem State.excAction_params : (s.excAction).params = s.params := rfl
@[simp] theorem State.excAction_argFreq : (s.excAction).argFreq = s.argFreq := rfl
@[simp] theorem State.excAction_argDur : (s.excAction).argDur = s.argDur := rfl
@[simp] theorem State.excAction_cpt : (s.excAction).cpt = s.cpt := rfl
@[simp] theorem State.excAction_tt : (s.excAction).tt = s.tt := rfl
@[simp] theorem State.excAction_tickCount : (s.excAction).tickCount = s.tickCount := rfl
@[simp] theorem State.excAction_mode : (s.excAction).mode = s.mode := rfl
@[simp] theorem State.excAction_completed : (s.excAction).completed = s.completed := rfl
@[simp] theorem State.excAction_result : (s.excAction).result = s.result := rfl
@[simp] theorem State.excAction_cfgCause : (s.excAction).cfgCause = s.cfgCause := rfl
@[simp] theorem State.excAction_trigArmed : (s.excAction).trigArmed = s.trigArmed := rfl
@[simp] theorem State.excAction_trigLoad : (s.excAction).trigLoad = s.trigLoad := rfl
@[simp] theorem State.excAction_trigPending : (s.excAction).trigPending = s.trigPending := rfl
@[simp] theorem State.excAction_rbMem : (s.excAction).rbMem = s.rbMem := rfl
@[simp] theorem State.excAction_rbWidx : (s.excAction).rbWidx = s.rbWidx := rfl
@[simp] theorem State.excAction_rbRidx : (s.excAction).rbRidx = s.rbRidx := rfl
@[simp] theorem State.excAction_ovrCount : (s.excAction).ovrCount = s.ovrCount := rfl
@[simp] theorem State.excAction_outCode : (s.excAction).outCode = excCode s.params s.tickCount := rfl
@[simp] theorem State.excAction_faults : (s.excAction).faults = s.faults := rfl
@[simp] theorem State.excAction_response : (s.excAction).response = s.response := rfl
@[simp] theorem State.excAction_schedule : (s.excAction).schedule = s.schedule := rfl
@[simp] theorem State.excAction_inputDraws : (s.excAction).inputDraws = s.inputDraws := rfl
@[simp] theorem State.excAction_rbDraws : (s.excAction).rbDraws = s.rbDraws := rfl
end

section
variable (s : State)
@[simp] theorem State.countTick_params : (s.countTick).params = s.params := rfl
@[simp] theorem State.countTick_argFreq : (s.countTick).argFreq = s.argFreq := rfl
@[simp] theorem State.countTick_argDur : (s.countTick).argDur = s.argDur := rfl
@[simp] theorem State.countTick_cpt : (s.countTick).cpt = s.cpt := rfl
@[simp] theorem State.countTick_tt : (s.countTick).tt = s.tt := rfl
@[simp] theorem State.countTick_tickCount : (s.countTick).tickCount = s.tickCount + 1#32 := rfl
@[simp] theorem State.countTick_mode : (s.countTick).mode = s.mode := rfl
@[simp] theorem State.countTick_completed : (s.countTick).completed = s.completed := rfl
@[simp] theorem State.countTick_result : (s.countTick).result = s.result := rfl
@[simp] theorem State.countTick_cfgCause : (s.countTick).cfgCause = s.cfgCause := rfl
@[simp] theorem State.countTick_trigArmed : (s.countTick).trigArmed = s.trigArmed := rfl
@[simp] theorem State.countTick_trigLoad : (s.countTick).trigLoad = s.trigLoad := rfl
@[simp] theorem State.countTick_trigPending : (s.countTick).trigPending = s.trigPending := rfl
@[simp] theorem State.countTick_rbMem : (s.countTick).rbMem = s.rbMem := rfl
@[simp] theorem State.countTick_rbWidx : (s.countTick).rbWidx = s.rbWidx := rfl
@[simp] theorem State.countTick_rbRidx : (s.countTick).rbRidx = s.rbRidx := rfl
@[simp] theorem State.countTick_ovrCount : (s.countTick).ovrCount = s.ovrCount := rfl
@[simp] theorem State.countTick_outCode : (s.countTick).outCode = s.outCode := rfl
@[simp] theorem State.countTick_faults : (s.countTick).faults = s.faults := rfl
@[simp] theorem State.countTick_response : (s.countTick).response = s.response := rfl
@[simp] theorem State.countTick_schedule : (s.countTick).schedule = s.schedule := rfl
@[simp] theorem State.countTick_inputDraws : (s.countTick).inputDraws = s.inputDraws := rfl
@[simp] theorem State.countTick_rbDraws : (s.countTick).rbDraws = s.rbDraws := rfl
end

section
variable (s : State) (r : CmdResult) (c : CfgCause)
@[simp] theorem State.setOutcome_params : (s.setOutcome r c).params = s.params := rfl
@[simp] theorem State.setOutcome_argFreq : (s.setOutcome r c).argFreq = s.argFreq := rfl
@[simp] theorem State.setOutcome_argDur : (s.setOutcome r c).argDur = s.argDur := rfl
@[simp] theorem State.setOutcome_cpt : (s.setOutcome r c).cpt = s.cpt := rfl
@[simp] theorem State.setOutcome_tt : (s.setOutcome r c).tt = s.tt := rfl
@[simp] theorem State.setOutcome_tickCount : (s.setOutcome r c).tickCount = s.tickCount := rfl
@[simp] theorem State.setOutcome_mode : (s.setOutcome r c).mode = s.mode := rfl
@[simp] theorem State.setOutcome_completed : (s.setOutcome r c).completed = s.completed := rfl
@[simp] theorem State.setOutcome_result : (s.setOutcome r c).result = r := rfl
@[simp] theorem State.setOutcome_cfgCause : (s.setOutcome r c).cfgCause = c := rfl
@[simp] theorem State.setOutcome_trigArmed : (s.setOutcome r c).trigArmed = s.trigArmed := rfl
@[simp] theorem State.setOutcome_trigLoad : (s.setOutcome r c).trigLoad = s.trigLoad := rfl
@[simp] theorem State.setOutcome_trigPending : (s.setOutcome r c).trigPending = s.trigPending := rfl
@[simp] theorem State.setOutcome_rbMem : (s.setOutcome r c).rbMem = s.rbMem := rfl
@[simp] theorem State.setOutcome_rbWidx : (s.setOutcome r c).rbWidx = s.rbWidx := rfl
@[simp] theorem State.setOutcome_rbRidx : (s.setOutcome r c).rbRidx = s.rbRidx := rfl
@[simp] theorem State.setOutcome_ovrCount : (s.setOutcome r c).ovrCount = s.ovrCount := rfl
@[simp] theorem State.setOutcome_outCode : (s.setOutcome r c).outCode = s.outCode := rfl
@[simp] theorem State.setOutcome_faults : (s.setOutcome r c).faults = s.faults := rfl
@[simp] theorem State.setOutcome_response : (s.setOutcome r c).response = s.response := rfl
@[simp] theorem State.setOutcome_schedule : (s.setOutcome r c).schedule = s.schedule := rfl
@[simp] theorem State.setOutcome_inputDraws : (s.setOutcome r c).inputDraws = s.inputDraws := rfl
@[simp] theorem State.setOutcome_rbDraws : (s.setOutcome r c).rbDraws = s.rbDraws := rfl
end

section
variable (s : State)
@[simp] theorem State.resetBlock_params : (s.resetBlock).params = s.params := rfl
@[simp] theorem State.resetBlock_argFreq : (s.resetBlock).argFreq = 0#32 := rfl
@[simp] theorem State.resetBlock_argDur : (s.resetBlock).argDur = 0#32 := rfl
@[simp] theorem State.resetBlock_cpt : (s.resetBlock).cpt = 0#32 := rfl
@[simp] theorem State.resetBlock_tt : (s.resetBlock).tt = 0#32 := rfl
@[simp] theorem State.resetBlock_tickCount : (s.resetBlock).tickCount = 0#32 := rfl
@[simp] theorem State.resetBlock_mode : (s.resetBlock).mode = .exc := rfl
@[simp] theorem State.resetBlock_completed : (s.resetBlock).completed = true := rfl
@[simp] theorem State.resetBlock_result : (s.resetBlock).result = .ok := rfl
@[simp] theorem State.resetBlock_cfgCause : (s.resetBlock).cfgCause = .none := rfl
@[simp] theorem State.resetBlock_trigArmed : (s.resetBlock).trigArmed = false := rfl
@[simp] theorem State.resetBlock_trigLoad : (s.resetBlock).trigLoad = 0#32 := rfl
@[simp] theorem State.resetBlock_trigPending : (s.resetBlock).trigPending = false := rfl
@[simp] theorem State.resetBlock_rbMem : (s.resetBlock).rbMem = [] := rfl
@[simp] theorem State.resetBlock_rbWidx : (s.resetBlock).rbWidx = 0 := rfl
@[simp] theorem State.resetBlock_rbRidx : (s.resetBlock).rbRidx = 0 := rfl
@[simp] theorem State.resetBlock_ovrCount : (s.resetBlock).ovrCount = 0#32 := rfl
@[simp] theorem State.resetBlock_outCode : (s.resetBlock).outCode = 0#32 := rfl
@[simp] theorem State.resetBlock_faults : (s.resetBlock).faults = s.faults := rfl
@[simp] theorem State.resetBlock_response : (s.resetBlock).response = .none := rfl
@[simp] theorem State.resetBlock_schedule : (s.resetBlock).schedule = s.schedule := rfl
@[simp] theorem State.resetBlock_inputDraws : (s.resetBlock).inputDraws = s.inputDraws := rfl
@[simp] theorem State.resetBlock_rbDraws : (s.resetBlock).rbDraws = s.rbDraws + 1 := rfl
end

section
variable (p : Params)
@[simp] theorem State.resetWith_params : (State.resetWith p).params = p := rfl
end

/-- The slot of RB_MEM reads from the memory and the draw alone. -/
theorem State.slot_congr (s t : State) (i : Nat) (hm : s.rbMem = t.rbMem) (hd : s.rbDraws = t.rbDraws) :
    s.slot i = t.slot i := by
  simp [State.slot, hm, hd]

end Sys2Proof.Machine
end

