-- ==== Sys2Proof/Laws/Memory.lean ====
section
/-! SUPPORT. The laws of RB_MEM: read after write, and that a write keeps the canonical form. -/

namespace Sys2Proof.Machine

@[simp] theorem RbMem.read?_nil (i : Nat) : RbMem.read? [] i = none := rfl

theorem RbMem.wf_nil : RbMem.wf [] := List.Pairwise.nil

/-- A slot reads the value just written to it. -/
@[simp] theorem RbMem.read?_write_same (m : RbMem) (i : Nat) (v : Sample) : (m.write i v).read? i = some v := by
  induction m with
  | nil => simp [RbMem.write, RbMem.read?]
  | cons e m ih =>
    obtain ⟨j, u⟩ := e
    simp only [RbMem.write]
    split
    · simp [RbMem.read?]
    · split
      · simp [RbMem.read?]
      · next h => simp [RbMem.read?, ih, Ne.symm h]

/-- A write leaves every other slot alone. -/
theorem RbMem.read?_write_other (m : RbMem) {i k : Nat} (v : Sample) (h : k ≠ i) :
    (m.write i v).read? k = m.read? k := by
  induction m with
  | nil => simp [RbMem.write, RbMem.read?, Ne.symm h]
  | cons e m ih =>
    obtain ⟨j, u⟩ := e
    simp only [RbMem.write]
    split
    · simp [RbMem.read?, Ne.symm h]
    · split
      · next hij => subst hij; simp [RbMem.read?, Ne.symm h]
      · simp [RbMem.read?, ih]

/-- The slots listed after a write are those before it and the written one. -/
theorem RbMem.mem_write (m : RbMem) (i : Nat) (v : Sample) (e : Nat × Sample) (h : e ∈ m.write i v) :
    e = (i, v) ∨ e ∈ m := by
  induction m with
  | nil => simpa [RbMem.write] using h
  | cons d m ih =>
    obtain ⟨j, u⟩ := d
    simp only [RbMem.write] at h
    split at h
    · simpa using h
    · split at h
      · rcases List.mem_cons.1 h with h | h
        · exact .inl h
        · exact .inr (List.mem_cons_of_mem _ h)
      · rcases List.mem_cons.1 h with h | h
        · exact .inr (h ▸ List.mem_cons_self)
        · exact (ih h).imp_right (List.mem_cons_of_mem _)

/-- A write keeps the canonical form. -/
theorem RbMem.write_keeps_wf (m : RbMem) (i : Nat) (v : Sample) (h : m.wf) : (m.write i v).wf := by
  induction m with
  | nil => simp [RbMem.write, RbMem.wf]
  | cons e m ih =>
    obtain ⟨j, u⟩ := e
    have hm : RbMem.wf m := (List.pairwise_cons.1 h).2
    have hlt : ∀ a ∈ m.map Prod.fst, j < a := (List.pairwise_cons.1 h).1
    simp only [RbMem.write]
    split
    · next hij =>
      refine List.pairwise_cons.2 ⟨fun a ha => ?_, h⟩
      rcases List.mem_cons.1 ha with rfl | ha
      · exact hij
      · exact hij.trans (hlt a ha)
    · split
      · next hij => subst hij; exact h
      · next hij hne =>
        refine List.pairwise_cons.2 ⟨fun a ha => ?_, ih hm⟩
        obtain ⟨e, he, rfl⟩ := List.mem_map.1 ha
        rcases RbMem.mem_write m i v e he with rfl | he
        · simp; omega
        · exact hlt _ (List.mem_map_of_mem he)

/-- MemWrite keeps the canonical form of RB_MEM, and every other field. -/
theorem State.memWrite_eq_some {s t : State} {i : Nat} {v : Sample} (h : s.memWrite i v = some t) :
    i < s.params.rbN ∧ t = { s with rbMem := s.rbMem.write i v } := by
  unfold State.memWrite at h
  split at h
  · next hi => exact ⟨hi, by simpa using h.symm⟩
  · cases h

/-- MemRead answers exactly for the slots of RB_MEM. -/
theorem State.memRead_eq_some {s : State} {i : Nat} {v : Sample} (h : s.memRead i = some v) :
    i < s.params.rbN ∧ v = s.slot i := by
  unfold State.memRead at h
  split at h
  · next hi => exact ⟨hi, by simpa using h.symm⟩
  · cases h

/-- RESET leaves RB_MEM canonical. -/
theorem State.resetBlock_rbMem_wf (s : State) : s.resetBlock.rbMem.wf := RbMem.wf_nil

/-- RB_MEM is canonical at reset. -/
theorem State.reset_rbMem_wf : State.reset.rbMem.wf := RbMem.wf_nil

end Sys2Proof.Machine
end

