-- ==== Sys2Proof/Laws/Ops.lean ====
section
/-! SUPPORT. For each shared operation, once, everything it can do; later proofs cite these instead of unfolding. -/

namespace Sys2Proof.Machine

/-- RB_PUSH: it completes exactly on a slot of RB_MEM, and these are its three writes (R231). -/
theorem State.rbPush_eq_some {s t : State} {v : Sample} (h : s.rbPush v = some t) :
    s.rbWidx < s.params.rbN ∧
      t = { s with
        rbMem := s.rbMem.write s.rbWidx v
        rbWidx := nextSlot s.params s.rbWidx
        ovrCount := if nextSlot s.params s.rbWidx = s.rbRidx then s.ovrCount + 1#32 else s.ovrCount } := by
  obtain ⟨u, hu, rfl⟩ := Option.map_eq_some_iff.1 h
  obtain ⟨hlt, rfl⟩ := State.memWrite_eq_some hu
  exact ⟨hlt, rfl⟩

/-- RB_PUSH completes on every slot of RB_MEM. -/
theorem State.rbPush_of_lt {s : State} (v : Sample) (h : s.rbWidx < s.params.rbN) :
    s.rbPush v = some { s with
      rbMem := s.rbMem.write s.rbWidx v
      rbWidx := nextSlot s.params s.rbWidx
      ovrCount := if nextSlot s.params s.rbWidx = s.rbRidx then s.ovrCount + 1#32 else s.ovrCount } := by
  simp [State.rbPush, State.memWrite, h]

/-- The pop: empty, or a slot's sample and an advanced index; never a refusal (R233). -/
theorem execRdRbData_eq_next {s t : State} (h : execRdRbData s = .next t) :
    (s.rbWidx = s.rbRidx ∧ t = { s with response := .data 0#32 }) ∨
    (s.rbWidx ≠ s.rbRidx ∧ s.rbRidx < s.params.rbN ∧
      t = { s with rbRidx := nextSlot s.params s.rbRidx, response := .data (rbDataWord (s.slot s.rbRidx)) }) := by
  unfold execRdRbData at h
  split at h
  · next hne =>
    split at h
    · next v hv =>
      obtain ⟨hlt, rfl⟩ := State.memRead_eq_some hv
      cases h
      exact .inr ⟨hne, hlt, rfl⟩
    · cases h
  · next heq => cases h; exact .inl ⟨not_not.1 heq, rfl⟩

/-- TICK step 1: the last tick completes, any other re-arms with CPT (R172, R175). -/
theorem State.completeOrRearm_cases (s : State) :
    (s.tt.toNat ≤ s.tickCount.toNat + 1 ∧ s.completeOrRearm = { s with completed := true }) ∨
    (s.tickCount.toNat + 1 < s.tt.toNat ∧
      s.completeOrRearm = { s with trigArmed := true, trigLoad := s.cpt }) := by
  unfold State.completeOrRearm
  split
  · next h => exact .inl ⟨h, rfl⟩
  · next h => exact .inr ⟨by omega, rfl⟩

/-- TICK step 2 by mode (R172-R174). -/
theorem State.tickAction_eq_some {s t : State} {x : Sample} (h : s.tickAction x = some t) :
    (s.mode = .acq ∧ s.rbPush x = some t) ∨
    (s.mode = .exc ∧ t = { s with outCode := excCode s.params s.tickCount }) := by
  unfold State.tickAction at h
  split at h
  · next hm => exact .inl ⟨hm, h⟩
  · next hm => cases h; exact .inr ⟨hm, rfl⟩

/-- TICK: an overrun that changes nothing but FAULTS, or the four steps (R172, R316). -/
theorem execTick_eq_next {x : Sample} {s t : State} (h : execTick x s = .next t) :
    s.trigPending = true ∧
    ((handlerFits s.params s.cpt = false ∧ t = s.raise (.tickOverrun s.cpt)) ∨
     (handlerFits s.params s.cpt = true ∧
       ∃ u, s.completeOrRearm.tickAction x = some u ∧ t = u.countTick.acknowledge.respond .none)) := by
  unfold execTick at h
  split at h
  · next hp =>
    split at h
    · next hf =>
      split at h
      · next u hu => cases h; exact ⟨hp, .inr ⟨hf, u, hu, rfl⟩⟩
      · cases h
    · next hf => cases h; exact ⟨hp, .inl ⟨by simpa using hf, rfl⟩⟩
  · cases h

/-- FIRE: enabled exactly when armed (R170). -/
theorem execFire_eq_next {s t : State} (h : execFire s = .next t) :
    s.trigArmed = true ∧ t = { s with trigArmed := false, trigPending := true, response := .none } := by
  unfold execFire at h
  split at h
  · next ha => cases h; exact ⟨ha, rfl⟩
  · cases h

/-- BEGIN: busy, a configuration error, an immediate completion or a started sequence (R203). -/
theorem State.beginSeq_cases (s : State) (m : Mode) :
    (s.completed = false ∧ s.beginSeq m = { s with result := .busy, cfgCause := .none }) ∨
    (s.completed = true ∧ ∃ c, derive s.params m s.argFreq s.argDur = .err c ∧
      s.beginSeq m = { s with result := .cfgErr, cfgCause := c }) ∨
    (s.completed = true ∧ ∃ cpt, derive s.params m s.argFreq s.argDur = .ok cpt 0#32 ∧
      s.beginSeq m =
        { s with cpt := cpt, tt := 0#32, tickCount := 0#32, mode := m, result := .ok, cfgCause := .none }) ∨
    (s.completed = true ∧ ∃ cpt tt, derive s.params m s.argFreq s.argDur = .ok cpt tt ∧ tt ≠ 0#32 ∧
      s.beginSeq m =
        { s with
          cpt := cpt, tt := tt, tickCount := 0#32, mode := m, result := .ok, cfgCause := .none
          completed := false, trigArmed := true, trigLoad := cpt }) := by
  cases hc : s.completed
  · exact .inl ⟨rfl, by simp [State.beginSeq, hc, State.setOutcome]⟩
  · cases hd : derive s.params m s.argFreq s.argDur with
    | err c => exact .inr (.inl ⟨rfl, c, rfl, by simp [State.beginSeq, hc, hd, State.setOutcome]⟩)
    | ok cpt tt =>
      by_cases ht : tt = 0#32
      · subst ht
        exact .inr (.inr (.inl ⟨rfl, cpt, rfl, by simp [State.beginSeq, hc, hd, State.commit, State.setOutcome]⟩))
      · exact .inr (.inr (.inr ⟨rfl, cpt, tt, rfl, ht, by
          simp only [State.beginSeq, hc, hd, State.commit, State.setOutcome, State.arm, if_neg ht, if_true]⟩))

/-- A label taken off the schedule: an operation, or an access that does not reach the block. -/
theorem State.takeLabel_eq_next {s t : State} {l : Label} {rest : List Label} (h : s.takeLabel l rest = .next t) :
    (∃ i, decodeLabel s.params.itcBase l = .instr i ∧ exec i { s with schedule := rest } = .next t) ∨
    (decodeLabel s.params.itcBase l = .outside ∧ t = { s with schedule := rest, response := .none }) := by
  unfold State.takeLabel at h
  split at h
  · next i hd => exact .inl ⟨i, hd, h⟩
  · next hd => cases h; exact .inr ⟨hd, rfl⟩
  · cases h

/-- DERIVE's Ok value is at least MIN_CPT (R146). -/
theorem derive_eq_ok_min {p : Params} {m : Mode} {f d c t : Word} (h : derive p m f d = .ok c t) :
    p.minCpt ≤ c.toNat := by
  unfold derive at h
  simp only at h
  split at h
  · cases h
  split at h
  · cases h
  split at h
  · cases h
  split at h
  · cases h
  rename_i h1 h2 h3 h4
  cases h
  have h3' : cptOf p (effFreq m f) ≤ 2 ^ 32 - 1 := by simpa [Config.trigW] using h3
  rw [BitVec.toNat_ofInt, Int.emod_eq_of_lt (by omega) (by omega)]
  omega

/-- Everything an operation can do when it completes: a response alone, an argument write, a fault recorded, a
BEGIN, an illegal command, a pop, RESET, FIRE, or the four steps of a TICK. -/
theorem exec_eq_next {i : Instr} {s t : State} (h : exec i s = .next t) :
    (∃ r, t = { s with response := r }) ∨
    (∃ d, i = .wrArgFreq d ∧ t = { s with argFreq := d, response := .ack }) ∨
    (∃ d, i = .wrArgDur d ∧ t = { s with argDur := d, response := .ack }) ∨
    (∃ f, t = s.raise f ∧ ((∃ x, i = .tick x) ∨ ∃ d sz o, f = .busError d sz o)) ∨
    (∃ m, (i = .beginExc ∧ m = .exc ∨ i = .beginAcq ∧ m = .acq) ∧ t = (s.beginSeq m).respond .ack) ∨
    (∃ d, i = .cmdIllegal d ∧ t = { s with result := .illegalCmd, cfgCause := .none, response := .ack }) ∨
    (i = .rdRbData ∧ s.rbWidx ≠ s.rbRidx ∧ s.rbRidx < s.params.rbN ∧
      t = { s with rbRidx := nextSlot s.params s.rbRidx, response := .data (rbDataWord (s.slot s.rbRidx)) }) ∨
    (i = .reset ∧ t = s.resetBlock) ∨
    (i = .fire ∧ s.trigArmed = true ∧
      t = { s with trigArmed := false, trigPending := true, response := .none }) ∨
    (∃ x, i = .tick x ∧ s.trigPending = true ∧ handlerFits s.params s.cpt = true ∧
      ∃ u, s.completeOrRearm.tickAction x = some u ∧ t = u.countTick.acknowledge.respond .none) := by
  cases i <;> simp only [exec] at h
  case rdRbData =>
    rcases execRdRbData_eq_next h with ⟨_, rfl⟩ | ⟨h1, h2, rfl⟩
    · exact .inl ⟨_, rfl⟩
    · simp [h1, h2]
  case fire =>
    obtain ⟨h1, rfl⟩ := execFire_eq_next h
    simp [h1]
  case tick x =>
    obtain ⟨h1, ⟨h2, rfl⟩ | ⟨h2, u, h3, rfl⟩⟩ := execTick_eq_next h
    · exact .inr (.inr (.inr (.inl ⟨_, rfl, .inl ⟨x, rfl⟩⟩)))
    · exact .inr (.inr (.inr (.inr (.inr (.inr (.inr (.inr (.inr ⟨x, rfl, h1, h2, u, h3, rfl⟩))))))))
  case reset => cases h; simp
  case wrArgFreq d => cases h; exact .inr (.inl ⟨_, rfl, rfl⟩)
  case wrArgDur d => cases h; exact .inr (.inr (.inl ⟨_, rfl, rfl⟩))
  case cmdIllegal d => cases h; exact .inr (.inr (.inr (.inr (.inr (.inl ⟨_, rfl, rfl⟩)))))
  case beginExc => cases h; exact .inr (.inr (.inr (.inr (.inl ⟨_, .inl ⟨rfl, rfl⟩, rfl⟩))))
  case beginAcq => cases h; exact .inr (.inr (.inr (.inr (.inl ⟨_, .inr ⟨rfl, rfl⟩, rfl⟩))))
  all_goals first
    | (cases h; exact .inl ⟨_, rfl⟩)
    | (cases h; exact .inr (.inr (.inr (.inl ⟨_, rfl, .inr ⟨_, _, _, rfl⟩⟩))))

/-- Everything a step can do: one operation on a state that differs from `s` in the schedule and the free-draw
counter alone, or an access that does not reach the block. -/
theorem step_eq_next {s t : State} (h : step s = .next t) :
    (∃ i rest n, exec i { s with schedule := rest, inputDraws := n } = .next t) ∨
    (∃ rest, t = { s with schedule := rest, response := .none }) := by
  unfold step at h
  split at h
  · next l rest _ =>
    rcases State.takeLabel_eq_next h with ⟨i, _, hi⟩ | ⟨_, rfl⟩
    · exact .inl ⟨i, rest, s.inputDraws, hi⟩
    · exact .inr ⟨rest, rfl⟩
  · next hs =>
    unfold State.ownTransition at h
    split at h
    · refine .inl ⟨.tick s.drawInput.1, s.schedule, s.drawInput.2.inputDraws, ?_⟩
      have : ({ s with schedule := s.schedule, inputDraws := s.drawInput.2.inputDraws } : State) = s.drawInput.2 := by
        unfold State.drawInput
        split <;> rfl
      rw [this]
      exact h
    · split at h
      · exact .inl ⟨.fire, s.schedule, s.inputDraws, h⟩
      · cases h

/-- A property that every completing operation keeps, and that does not look at the response, the schedule or the
free-draw counter, is kept by every step. -/
theorem step_keeps {P : State → Prop} (hview : ∀ s r l n, P s → P { s with response := r, schedule := l, inputDraws := n })
    (hexec : ∀ i s t, P s → exec i s = .next t → P t) {s t : State} (h : step s = .next t) (hs : P s) : P t := by
  rcases step_eq_next h with ⟨i, rest, n, h⟩ | ⟨rest, rfl⟩
  · exact hexec i _ t (hview s s.response rest n hs) h
  · exact hview s .none rest s.inputDraws hs

end Sys2Proof.Machine
end

