-- ==== Sys2Proof/Laws/PerInstr.lean ====
section
/-! SUPPORT. The families of lemmas with one member for each operation. -/

namespace Sys2Proof.Laws

/-- The bitwise and of two transaction words, field by field. -/
theorem make_and (d d' : BitVec 1) (s s' : BitVec 2) (o o' : BitVec 6) (x x' : Word) :
    Txn.make d s o x &&& Txn.make d' s' o' x' = Txn.make (d &&& d') (s &&& s') (o &&& o') (x &&& x') := by
  apply BitVec.eq_of_getLsbD_eq
  intro n _
  simp only [Txn.make, BitVec.getLsbD_and, BitVec.getLsbD_append]
  split <;> [rfl; (split <;> [rfl; (split <;> rfl)])]

/-- A word made of fields is of a row whose mask and pattern are made of fields that agree. -/
theorem covers_make {r : TxnRow} {d : BitVec 1} {s : BitVec 2} {o : BitVec 6} {x : Word}
    (md : BitVec 1) (ms : BitVec 2) (mo : BitVec 6) (mx : Word) (hm : r.mask = Txn.make md ms mo mx)
    (hp : r.pattern = Txn.make (d &&& md) (s &&& ms) (o &&& mo) (x &&& mx)) :
    r.covers (Txn.make d s o x) = true := by
  simp [TxnRow.covers, hm, hp, make_and]

/-- The label an operation is written as lies in the operation's own row of the opcode table. -/
def TableRow.Statement (i : Instr) : Prop :=
  match encode i with
  | .txn w => ∃ r ∈ txnTable, r.mnemonic = i.mnemonic ∧ r.covers w = true
  | .evt c _ => (i.mnemonic, c) ∈ evtTable
  | .access _ _ _ _ => False

namespace TableRow

theorem buserrSize8 (dir : BitVec 1) (off : BitVec 6) (data : Word) : Statement (.buserrSize8 dir off data) := by
  refine ⟨⟨"BUSERR_SIZE8", 0x00000000000#41, 0x0C000000000#41⟩, by decide, rfl,
    covers_make 0#1 3#2 0x0#6 0x0#32 (by decide) ?_⟩
  simp only [BitVec.and_zero]
  decide

theorem buserrSize16 (dir : BitVec 1) (off : BitVec 6) (data : Word) : Statement (.buserrSize16 dir off data) := by
  refine ⟨⟨"BUSERR_SIZE16", 0x04000000000#41, 0x0C000000000#41⟩, by decide, rfl,
    covers_make 0#1 3#2 0x0#6 0x0#32 (by decide) ?_⟩
  simp only [BitVec.and_zero]
  decide

theorem buserrSizeRsvd (dir : BitVec 1) (off : BitVec 6) (data : Word) : Statement (.buserrSizeRsvd dir off data) := by
  refine ⟨⟨"BUSERR_SIZE_RSVD", 0x0C000000000#41, 0x0C000000000#41⟩, by decide, rfl,
    covers_make 0#1 3#2 0x0#6 0x0#32 (by decide) ?_⟩
  simp only [BitVec.and_zero]
  decide

theorem buserrMisaligned1 (dir : BitVec 1) (slot : BitVec 4) (data : Word) : Statement (.buserrMisaligned1 dir slot data) := by
  refine ⟨⟨"BUSERR_MISALIGNED_1", 0x08100000000#41, 0x0C300000000#41⟩, by decide, rfl,
    covers_make 0#1 3#2 0x3#6 0x0#32 (by decide) ?_⟩
  simp only [BitVec.and_zero]
  revert slot
  decide

theorem buserrMisaligned2 (dir : BitVec 1) (slot : BitVec 4) (data : Word) : Statement (.buserrMisaligned2 dir slot data) := by
  refine ⟨⟨"BUSERR_MISALIGNED_2", 0x08200000000#41, 0x0C300000000#41⟩, by decide, rfl,
    covers_make 0#1 3#2 0x3#6 0x0#32 (by decide) ?_⟩
  simp only [BitVec.and_zero]
  revert slot
  decide

theorem buserrMisaligned3 (dir : BitVec 1) (slot : BitVec 4) (data : Word) : Statement (.buserrMisaligned3 dir slot data) := by
  refine ⟨⟨"BUSERR_MISALIGNED_3", 0x08300000000#41, 0x0C300000000#41⟩, by decide, rfl,
    covers_make 0#1 3#2 0x3#6 0x0#32 (by decide) ?_⟩
  simp only [BitVec.and_zero]
  revert slot
  decide

theorem beginExc : Statement .beginExc := by
  refine ⟨⟨"BEGIN_EXC", 0x18000000001#41, 0x1FFFFFFFFFF#41⟩, by decide, rfl,
    covers_make 1#1 3#2 0x3f#6 0xffffffff#32 (by decide) ?_⟩
  decide

theorem beginAcq : Statement .beginAcq := by
  refine ⟨⟨"BEGIN_ACQ", 0x18000000002#41, 0x1FFFFFFFFFF#41⟩, by decide, rfl,
    covers_make 1#1 3#2 0x3f#6 0xffffffff#32 (by decide) ?_⟩
  decide

theorem cmdIllegal (data : Word) : Statement (.cmdIllegal data) := by
  refine ⟨⟨"CMD_ILLEGAL", 0x18000000000#41, 0x1FF00000000#41⟩, by decide, rfl,
    covers_make 1#1 3#2 0x3f#6 0x0#32 (by decide) ?_⟩
  simp only [BitVec.and_zero]
  decide

theorem rdCmd : Statement .rdCmd := by
  refine ⟨⟨"RD_CMD", 0x08000000000#41, 0x1FF00000000#41⟩, by decide, rfl,
    covers_make 1#1 3#2 0x3f#6 0x0#32 (by decide) ?_⟩
  decide

theorem rdArgFreq : Statement .rdArgFreq := by
  refine ⟨⟨"RD_ARG_FREQ", 0x08400000000#41, 0x1FF00000000#41⟩, by decide, rfl,
    covers_make 1#1 3#2 0x3f#6 0x0#32 (by decide) ?_⟩
  decide

theorem rdArgDur : Statement .rdArgDur := by
  refine ⟨⟨"RD_ARG_DUR", 0x08800000000#41, 0x1FF00000000#41⟩, by decide, rfl,
    covers_make 1#1 3#2 0x3f#6 0x0#32 (by decide) ?_⟩
  decide

theorem rdStatus : Statement .rdStatus := by
  refine ⟨⟨"RD_STATUS", 0x08C00000000#41, 0x1FF00000000#41⟩, by decide, rfl,
    covers_make 1#1 3#2 0x3f#6 0x0#32 (by decide) ?_⟩
  decide

theorem rdCpt : Statement .rdCpt := by
  refine ⟨⟨"RD_CPT", 0x09000000000#41, 0x1FF00000000#41⟩, by decide, rfl,
    covers_make 1#1 3#2 0x3f#6 0x0#32 (by decide) ?_⟩
  decide

theorem rdTt : Statement .rdTt := by
  refine ⟨⟨"RD_TT", 0x09400000000#41, 0x1FF00000000#41⟩, by decide, rfl,
    covers_make 1#1 3#2 0x3f#6 0x0#32 (by decide) ?_⟩
  decide

theorem rdTickCount : Statement .rdTickCount := by
  refine ⟨⟨"RD_TICK_COUNT", 0x09800000000#41, 0x1FF00000000#41⟩, by decide, rfl,
    covers_make 1#1 3#2 0x3f#6 0x0#32 (by decide) ?_⟩
  decide

theorem rdRbWidx : Statement .rdRbWidx := by
  refine ⟨⟨"RD_RB_WIDX", 0x09C00000000#41, 0x1FF00000000#41⟩, by decide, rfl,
    covers_make 1#1 3#2 0x3f#6 0x0#32 (by decide) ?_⟩
  decide

theorem rdRbRidx : Statement .rdRbRidx := by
  refine ⟨⟨"RD_RB_RIDX", 0x0A000000000#41, 0x1FF00000000#41⟩, by decide, rfl,
    covers_make 1#1 3#2 0x3f#6 0x0#32 (by decide) ?_⟩
  decide

theorem rdRbData : Statement .rdRbData := by
  refine ⟨⟨"RD_RB_DATA", 0x0A400000000#41, 0x1FF00000000#41⟩, by decide, rfl,
    covers_make 1#1 3#2 0x3f#6 0x0#32 (by decide) ?_⟩
  decide

theorem rdOvrCount : Statement .rdOvrCount := by
  refine ⟨⟨"RD_OVR_COUNT", 0x0A800000000#41, 0x1FF00000000#41⟩, by decide, rfl,
    covers_make 1#1 3#2 0x3f#6 0x0#32 (by decide) ?_⟩
  decide

theorem rdOutCode : Statement .rdOutCode := by
  refine ⟨⟨"RD_OUT_CODE", 0x0AC00000000#41, 0x1FF00000000#41⟩, by decide, rfl,
    covers_make 1#1 3#2 0x3f#6 0x0#32 (by decide) ?_⟩
  decide

theorem wrArgFreq (data : Word) : Statement (.wrArgFreq data) := by
  refine ⟨⟨"WR_ARG_FREQ", 0x18400000000#41, 0x1FF00000000#41⟩, by decide, rfl,
    covers_make 1#1 3#2 0x3f#6 0x0#32 (by decide) ?_⟩
  simp only [BitVec.and_zero]
  decide

theorem wrArgDur (data : Word) : Statement (.wrArgDur data) := by
  refine ⟨⟨"WR_ARG_DUR", 0x18800000000#41, 0x1FF00000000#41⟩, by decide, rfl,
    covers_make 1#1 3#2 0x3f#6 0x0#32 (by decide) ?_⟩
  simp only [BitVec.and_zero]
  decide

theorem wrStatus (data : Word) : Statement (.wrStatus data) := by
  refine ⟨⟨"WR_STATUS", 0x18C00000000#41, 0x1FF00000000#41⟩, by decide, rfl,
    covers_make 1#1 3#2 0x3f#6 0x0#32 (by decide) ?_⟩
  simp only [BitVec.and_zero]
  decide

theorem wrCpt (data : Word) : Statement (.wrCpt data) := by
  refine ⟨⟨"WR_CPT", 0x19000000000#41, 0x1FF00000000#41⟩, by decide, rfl,
    covers_make 1#1 3#2 0x3f#6 0x0#32 (by decide) ?_⟩
  simp only [BitVec.and_zero]
  decide

theorem wrTt (data : Word) : Statement (.wrTt data) := by
  refine ⟨⟨"WR_TT", 0x19400000000#41, 0x1FF00000000#41⟩, by decide, rfl,
    covers_make 1#1 3#2 0x3f#6 0x0#32 (by decide) ?_⟩
  simp only [BitVec.and_zero]
  decide

theorem wrTickCount (data : Word) : Statement (.wrTickCount data) := by
  refine ⟨⟨"WR_TICK_COUNT", 0x19800000000#41, 0x1FF00000000#41⟩, by decide, rfl,
    covers_make 1#1 3#2 0x3f#6 0x0#32 (by decide) ?_⟩
  simp only [BitVec.and_zero]
  decide

theorem wrRbWidx (data : Word) : Statement (.wrRbWidx data) := by
  refine ⟨⟨"WR_RB_WIDX", 0x19C00000000#41, 0x1FF00000000#41⟩, by decide, rfl,
    covers_make 1#1 3#2 0x3f#6 0x0#32 (by decide) ?_⟩
  simp only [BitVec.and_zero]
  decide

theorem wrRbRidx (data : Word) : Statement (.wrRbRidx data) := by
  refine ⟨⟨"WR_RB_RIDX", 0x1A000000000#41, 0x1FF00000000#41⟩, by decide, rfl,
    covers_make 1#1 3#2 0x3f#6 0x0#32 (by decide) ?_⟩
  simp only [BitVec.and_zero]
  decide

theorem wrRbData (data : Word) : Statement (.wrRbData data) := by
  refine ⟨⟨"WR_RB_DATA", 0x1A400000000#41, 0x1FF00000000#41⟩, by decide, rfl,
    covers_make 1#1 3#2 0x3f#6 0x0#32 (by decide) ?_⟩
  simp only [BitVec.and_zero]
  decide

theorem wrOvrCount (data : Word) : Statement (.wrOvrCount data) := by
  refine ⟨⟨"WR_OVR_COUNT", 0x1A800000000#41, 0x1FF00000000#41⟩, by decide, rfl,
    covers_make 1#1 3#2 0x3f#6 0x0#32 (by decide) ?_⟩
  simp only [BitVec.and_zero]
  decide

theorem wrOutCode (data : Word) : Statement (.wrOutCode data) := by
  refine ⟨⟨"WR_OUT_CODE", 0x1AC00000000#41, 0x1FF00000000#41⟩, by decide, rfl,
    covers_make 1#1 3#2 0x3f#6 0x0#32 (by decide) ?_⟩
  simp only [BitVec.and_zero]
  decide

theorem rdRsvd (k : BitVec 2) : Statement (.rdRsvd k) := by
  refine ⟨⟨"RD_RSVD", 0x0B000000000#41, 0x1F300000000#41⟩, by decide, rfl,
    covers_make 1#1 3#2 0x33#6 0x0#32 (by decide) ?_⟩
  simp only [BitVec.and_zero]
  revert k
  decide

theorem wrRsvd (k : BitVec 2) (data : Word) : Statement (.wrRsvd k data) := by
  refine ⟨⟨"WR_RSVD", 0x1B000000000#41, 0x1F300000000#41⟩, by decide, rfl,
    covers_make 1#1 3#2 0x33#6 0x0#32 (by decide) ?_⟩
  simp only [BitVec.and_zero]
  revert k
  decide

theorem reset : Statement .reset := by
  show _ ∈ _
  decide

theorem fire : Statement .fire := by
  show _ ∈ _
  decide

theorem tick (x : Sample) : Statement (.tick x) := by
  show ("TICK", 2#4) ∈ evtTable
  decide

end TableRow

end Sys2Proof.Laws
end

