-- ==== Sys2Proof/Laws/Decode.lean ====
section
/-! SUPPORT. The fields of a transaction word made of fields, and back. -/

namespace Sys2Proof.Laws

@[simp] theorem size_make (d : BitVec 1) (s : BitVec 2) (o : BitVec 6) (x : Word) : (Txn.make d s o x).size = s := by
  apply BitVec.eq_of_getLsbD_eq
  intro n hn
  simp only [Txn.size, Txn.make, BitVec.getLsbD_extractLsb', BitVec.getLsbD_append]
  obtain rfl | rfl : n = 0 ∨ n = 1 := by omega
  all_goals simp

@[simp] theorem dir_make (d : BitVec 1) (s : BitVec 2) (o : BitVec 6) (x : Word) : (Txn.make d s o x).dir = d := by
  apply BitVec.eq_of_getLsbD_eq
  intro n hn
  obtain rfl : n = 0 := by omega
  simp only [Txn.dir, Txn.make, BitVec.getLsbD_extractLsb', BitVec.getLsbD_append]
  simp

@[simp] theorem off_make (d : BitVec 1) (s : BitVec 2) (o : BitVec 6) (x : Word) : (Txn.make d s o x).off = o := by
  apply BitVec.eq_of_getLsbD_eq
  intro n hn
  have h : 32 + n - 32 = n := by omega
  simp only [Txn.off, Txn.make, BitVec.getLsbD_extractLsb', BitVec.getLsbD_append]
  simp [hn, h]

@[simp] theorem data_make (d : BitVec 1) (s : BitVec 2) (o : BitVec 6) (x : Word) : (Txn.make d s o x).data = x := by
  apply BitVec.eq_of_getLsbD_eq
  intro n hn
  simp only [Txn.data, Txn.make, BitVec.getLsbD_extractLsb', BitVec.getLsbD_append]
  simp [hn]

/-- A transaction word is made of its four fields. -/
theorem make_fields (w : Txn) : Txn.make w.dir w.size w.off w.data = w := by
  apply BitVec.eq_of_getLsbD_eq
  intro n hn
  simp only [Txn.make, Txn.dir, Txn.size, Txn.off, Txn.data, BitVec.getLsbD_extractLsb', BitVec.getLsbD_append]
  split
  · simp_all
  · split
    · have h : 32 + (n - 32) = n := by omega
      simp_all
    · split
      · have h : 38 + (n - 32 - 6) = n := by omega
        simp_all
      · have h : 40 + (n - 32 - 6 - 2) = n := by omega
        have h1 : n - 32 - 6 - 2 < 1 := by omega
        simp [h1, h]

@[simp] theorem offLow_append (slot : BitVec 4) (low : BitVec 2) : offLow (slot ++ low) = low := by
  revert slot low
  decide

@[simp] theorem offSlot_append (slot : BitVec 4) (low : BitVec 2) : offSlot (slot ++ low) = slot := by
  revert slot low
  decide

/-- A word is of a row exactly if each of its fields agrees with the pattern's under the mask's. -/
theorem covers_iff (r : TxnRow) (w : Txn) :
    r.covers w = (w.dir &&& r.mask.dir == r.pattern.dir && w.size &&& r.mask.size == r.pattern.size &&
      w.off &&& r.mask.off == r.pattern.off && w.data &&& r.mask.data == r.pattern.data) := by
  rw [Bool.eq_iff_iff]
  simp only [TxnRow.covers, beq_iff_eq, Bool.and_eq_true]
  rw [← make_fields w, ← make_fields r.mask, ← make_fields r.pattern, make_and]
  simp only [size_make, dir_make, off_make, data_make]
  constructor
  · intro h
    refine ⟨⟨⟨?_, ?_⟩, ?_⟩, ?_⟩
    · simpa using congrArg Txn.dir h
    · simpa using congrArg Txn.size h
    · simpa using congrArg Txn.off h
    · simpa using congrArg Txn.data h
  · rintro ⟨⟨⟨h1, h2⟩, h3⟩, h4⟩
    rw [h1, h2, h3, h4]

end Sys2Proof.Laws
end

