-- ==== Sys2Proof/Laws/Host.lean ====
section
/-! SUPPORT. What the host's transactions decode to, what it reads in a STATUS word, and everything a move of the two
agents can do. -/

namespace Sys2Proof.Machine

/-! ## The transactions the host issues -/

theorem decodeLabel_rd_rbData (base : Nat) : decodeLabel base (assemble (rd .rbData)) = .instr .rdRbData := rfl

theorem decodeLabel_rd_status (base : Nat) : decodeLabel base (assemble (rd .status)) = .instr .rdStatus := rfl

theorem decodeLabel_rd_ovrCount (base : Nat) : decodeLabel base (assemble (rd .ovrCount)) = .instr .rdOvrCount := rfl

theorem decodeLabel_wr_argFreq (base : Nat) (v : Word) :
    decodeLabel base (assemble (wr .argFreq v)) = .instr (.wrArgFreq v) := by
  simp [decodeLabel, assemble, wr, decodeTxn, AsmSize.code, AsmTarget.off, offLow, offSlot, decodeWrite]

theorem decodeLabel_wr_argDur (base : Nat) (v : Word) :
    decodeLabel base (assemble (wr .argDur v)) = .instr (.wrArgDur v) := by
  simp [decodeLabel, assemble, wr, decodeTxn, AsmSize.code, AsmTarget.off, offLow, offSlot, decodeWrite]

theorem decodeLabel_begin_exc (base : Nat) :
    decodeLabel base (assemble (wr .cmd (beginCode .exc))) = .instr .beginExc := rfl

theorem decodeLabel_begin_acq (base : Nat) :
    decodeLabel base (assemble (wr .cmd (beginCode .acq))) = .instr .beginAcq := rfl

/-! ## What the host reads in a STATUS word (R94) -/

theorem isDone_statusWord (s : State) : isDone s.statusWord = s.completed := by
  unfold State.statusWord bit isDone
  generalize s.completed = e
  simp only [BitVec.getLsbD_append]
  cases e <;> simp

theorem resultField_statusWord (s : State) : resultField s.statusWord = s.result.code := by
  unfold State.statusWord bit resultField
  generalize s.result.code = c
  apply BitVec.eq_of_getLsbD_eq
  intro i hi
  simp only [BitVec.getLsbD_append, BitVec.getLsbD_extractLsb']
  interval_cases i <;> simp

theorem causeField_statusWord (s : State) : causeField s.statusWord = s.cfgCause.code := by
  unfold State.statusWord bit causeField
  generalize s.cfgCause.code = c
  apply BitVec.eq_of_getLsbD_eq
  intro i hi
  simp only [BitVec.getLsbD_append, BitVec.getLsbD_extractLsb']
  interval_cases i <;> simp

/-! ## Moves -/

/-- A host whose program is over issues nothing. -/
theorem HostState.issue_of_over {h : HostState} (ho : h.over = true) : h.issue = none := by
  unfold HostState.over at ho
  unfold HostState.issue
  split at ho <;> simp_all

/-- The block's part of a completed transition, and the host's after it. -/
theorem System.after_eq_next {y z : System} {h : State → HostState} {i : Instr} (hx : y.after h i = .next z) :
    ∃ b, exec i y.block = .next b ∧ z = { block := b, host := h b } := by
  unfold System.after at hx
  split at hx
  · next b hb => cases hx; exact ⟨b, hb, rfl⟩
  · cases hx
  · cases hx

/-- Everything a completed move can do: a host's turn without a transaction, a host's transaction, or an event. -/
theorem System.move_eq_next {y z : System} {m : Move} (hx : y.move m = .next z) :
    (m = .host ∧ z.block = y.block) ∨
    (∃ line i b, m = .host ∧ y.host.issue = some line ∧
      decodeLabel y.block.params.itcBase (assemble line) = .instr i ∧ exec i y.block = .next b ∧
      z = { block := b, host := y.host.receive b.response }) ∨
    (∃ i b, (m = .fire ∧ i = .fire ∨ (∃ x, m = .tick x ∧ i = .tick x) ∨ m = .reset ∧ i = .reset) ∧
      exec i y.block = .next b ∧ z = { block := b, host := y.host }) := by
  cases m <;> simp only [System.move] at hx
  case host =>
    split at hx
    · next line hl =>
      split at hx
      · next i hd =>
        obtain ⟨b, hb, rfl⟩ := System.after_eq_next hx
        exact .inr (.inl ⟨line, i, b, rfl, hl, hd, hb, rfl⟩)
      · cases hx; exact .inl ⟨rfl, rfl⟩
      · cases hx
    · cases hx
      refine .inl ⟨rfl, ?_⟩
      split <;> rfl
  all_goals
    obtain ⟨b, hb, rfl⟩ := System.after_eq_next hx
    exact .inr (.inr ⟨_, b, by simp, hb, rfl⟩)

/-- A host's transaction that completes. -/
theorem System.move_host {y : System} {line : AsmLine} {i : Instr} {b : State} (hl : y.host.issue = some line)
    (hd : decodeLabel y.block.params.itcBase (assemble line) = .instr i) (hb : exec i y.block = .next b) :
    y.move .host = .next { block := b, host := y.host.receive b.response } := by
  simp only [System.move, hl, hd, System.after, hb]

/-- A first move that completes. -/
theorem System.moves_cons {y z : System} {m : Move} (ms : List Move) (h : y.move m = .next z) :
    y.moves (m :: ms) = z.moves ms := by
  simp only [System.moves, h]

/-- Moves one after another. -/
theorem System.moves_append {y z : System} {ms ns : List Move} (h : y.moves ms = .next z) :
    y.moves (ms ++ ns) = z.moves ns := by
  induction ms generalizing y with
  | nil => cases h; rfl
  | cons m ms ih =>
    simp only [System.moves] at h
    split at h
    · next y2 hy =>
      simp only [List.cons_append, System.moves, hy]
      exact ih h
    · cases h
    · cases h

end Sys2Proof.Machine
end

