-- ==== Sys2Proof/Laws/Ring.lean ====
section
/-! SUPPORT. The index arithmetic of the ring buffer, and which fields an invariant or a view of the state looks
at: a later proof cites these instead of unfolding. -/

namespace Sys2Proof.Machine

/-- A push on the indices: it meets the reader exactly when the buffer was full to RB_N - 1, the occupancy then drops
to 0 and else grows by 1, and the slot it writes is the one after the unread ones (R230, R231). -/
theorem occ_push {n w r : Nat} (hn : 2 ≤ n) (hw : w < n) (hr : r < n) :
   let occ := (w + n - r) % n
   let w' := (w+1) % n
   occ < n ∧ ((w' = r ↔ occ + 1 = n)) ∧ (w' + n - r) % n = (if occ + 1 = n then 0 else occ + 1) ∧ (r + occ) % n = w := by
  intro occ w'
  have hocc : occ = if r ≤ w then w - r else w + n - r := by
    show (w + n - r) % n = _
    split
    · have : w + n - r = w - r + n := by omega
      rw [this, Nat.add_mod_right, Nat.mod_eq_of_lt (by omega)]
    · rw [Nat.mod_eq_of_lt (by omega)]
  have hw' : w' = if w + 1 = n then 0 else w + 1 := by
    show (w+1) % n = _
    split
    · next h => rw [h, Nat.mod_self]
    · rw [Nat.mod_eq_of_lt (by omega)]
  have hocc' : (w' + n - r) % n = if r ≤ w' then w' - r else w' + n - r := by
    have : w' < n := Nat.mod_lt _ (by omega)
    split
    · have : w' + n - r = w' - r + n := by omega
      rw [this, Nat.add_mod_right, Nat.mod_eq_of_lt (by omega)]
    · rw [Nat.mod_eq_of_lt (by omega)]
  have hro : (r + occ) % n = w := by
    rw [hocc]
    split
    · rw [Nat.mod_eq_of_lt (by omega)]; omega
    · have : r + (w + n - r) = w + n := by omega
      rw [this, Nat.add_mod_right, Nat.mod_eq_of_lt hw]
  refine ⟨Nat.mod_lt _ (by omega), ?_, ?_, hro⟩
  · rw [hocc, hw']; split <;> split <;> omega
  · rw [hocc', hocc, hw']
    split <;> split <;> split <;> (try split) <;> omega

/-- A pop on the indices: the occupancy was positive and drops by 1 (R230, R233). -/
theorem occ_pop {n w r : Nat} (hn : 1 ≤ n) (hw : w < n) (hr : r < n) (hne : w ≠ r) :
   let r' := (r+1) % n
   (w + n - r') % n + 1 = (w + n - r) % n ∧ 0 < (w + n - r) % n := by
  intro r'
  have hr' : r' = if r + 1 = n then 0 else r + 1 := by
    show (r+1) % n = _
    split
    · next h => rw [h, Nat.mod_self]
    · rw [Nat.mod_eq_of_lt (by omega)]
  have h0 : ∀ r, r < n → (w + n - r) % n = if r ≤ w then w - r else w + n - r := by
    intro r hr
    split
    · have : w + n - r = w - r + n := by omega
      rw [this, Nat.add_mod_right, Nat.mod_eq_of_lt (by omega)]
    · rw [Nat.mod_eq_of_lt (by omega)]
  rw [h0 r hr, h0 r' (Nat.mod_lt _ (by omega)), hr']
  split <;> split <;> (try split) <;> omega

/-- Two offsets below RB_N from one index name two slots. -/
theorem mod_inj {n r a b : Nat} (ha : a < n) (hb : b < n) (h : (r + a) % n = (r + b) % n) : a = b := by
  have := Nat.ModEq.add_left_cancel' r h
  unfold Nat.ModEq at this
  rwa [Nat.mod_eq_of_lt ha, Nat.mod_eq_of_lt hb] at this

/-- The occupancy is 0 exactly when the indices are equal (R230). -/
theorem occ_zero {n w r : Nat} (hw : w < n) (hr : r < n) : (w + n - r) % n = 0 ↔ w = r := by
  constructor
  · intro h
    by_contra hne
    have := (occ_pop (n:=n) (by omega) hw hr hne).2
    omega
  · rintro rfl; simp

/-- The unread samples number the occupancy. -/
theorem State.unread_length (s : State) : s.unread.length = s.occupancy := by simp [State.unread]

/-- The unread samples depend on RB_MEM, its draw, the two indices and RB_N only. -/
theorem State.unread_congr {s t : State} (h1 : t.params = s.params) (h2 : t.rbMem = s.rbMem)
    (h3 : t.rbWidx = s.rbWidx) (h4 : t.rbRidx = s.rbRidx) (h5 : t.rbDraws = s.rbDraws) : t.unread = s.unread := by
  simp [State.unread, State.occupancy, State.slot, h1, h2, h3, h4, h5]

/-- The ring invariant depends on RB_MEM, the two indices and RB_N only. -/
theorem State.RingInv.congr {s t : State} (hs : s.RingInv) (h1 : t.params.rbN = s.params.rbN)
    (h2 : t.rbMem = s.rbMem) (h3 : t.rbWidx = s.rbWidx) (h4 : t.rbRidx = s.rbRidx) : t.RingInv := by
  obtain ⟨a, b, c, d, e⟩ := hs
  constructor
  · rw [h1, h3]; exact a
  · rw [h1, h4]; exact b
  · rw [h2]; exact c
  · rw [h1, h2]; exact d
  · simp only [State.occupancy, h1, h2, h3, h4]; exact e

/-- The control invariant depends on the sequencer's fields and MIN_CPT only. -/
theorem State.ControlInv.congr {s t : State} (h : s.ControlInv) (h0 : t.params = s.params)
    (h1 : t.completed = s.completed) (h2 : t.trigArmed = s.trigArmed) (h3 : t.trigPending = s.trigPending)
    (h4 : t.tickCount = s.tickCount) (h5 : t.tt = s.tt) (h6 : t.trigLoad = s.trigLoad) (h7 : t.cpt = s.cpt) :
    t.ControlInv := by
  obtain ⟨c1, c2, c3, c4, c5, c6, c7⟩ := h
  constructor <;> simp only [h0, h1, h2, h3, h4, h5, h6, h7] <;> assumption

/-- What a host pops from the RB_DATA word of a sample is the sample (R95, R102). -/
theorem popped_rbDataWord (x : Sample) : popped (rbDataWord x) = some x := by
  have h1 : (rbDataWord x).getLsbD 31 = true := by simp only [rbDataWord, BitVec.getLsbD_append]; simp
  have h2 : (rbDataWord x).extractLsb' 0 16 = x := by
    apply BitVec.eq_of_getLsbD_eq
    intro i hi
    simp only [rbDataWord, BitVec.getLsbD_append, BitVec.getLsbD_extractLsb']
    simp [hi]
  rw [popped, h1, h2]
  rfl

/-- What TICK step 1 leaves as it is. -/
theorem State.completeOrRearm_view (s : State) :
    s.completeOrRearm.params = s.params ∧ s.completeOrRearm.rbMem = s.rbMem ∧
      s.completeOrRearm.rbWidx = s.rbWidx ∧ s.completeOrRearm.rbRidx = s.rbRidx ∧
      s.completeOrRearm.outCode = s.outCode ∧ s.completeOrRearm.mode = s.mode ∧
      s.completeOrRearm.ovrCount = s.ovrCount ∧ s.completeOrRearm.tickCount = s.tickCount ∧
      s.completeOrRearm.result = s.result ∧ s.completeOrRearm.cfgCause = s.cfgCause ∧
      s.completeOrRearm.faults = s.faults ∧ s.completeOrRearm.rbDraws = s.rbDraws := by
  rcases State.completeOrRearm_cases s with ⟨_, h⟩ | ⟨_, h⟩ <;> simp [h]

end Sys2Proof.Machine
end

