-- ==== Sys2Proof/Tests/Slice0.lean ====
section
/-! SUPPORT. Small tests against the spec's own words and vectors (spec/95_test_vectors.md), and for every statement
with hypotheses a concrete state and operands that meet them. -/

namespace Sys2Proof.Tests

open Sys2Proof.Machine

/-! ## The example parameters of 95_test_vectors.md -/

/-- SYSCLK_HZ 125 MHz, OVERHEAD 5, MIN_CPT 1, RB_N 256, PERM_EX, SINE16_EX, a handler that always fits. -/
def exParams : Params where
  sysclkHz := 125000000
  overhead := 5
  minCpt := 1
  rbN := 256
  perm := ⟨#[16, 17, 18, 19, 20, 21, 22, 26], rfl⟩
  sine16 := ⟨#[128#8, 177#8, 218#8, 245#8, 255#8, 245#8, 218#8, 177#8, 128#8, 79#8, 38#8, 11#8, 1#8, 11#8, 38#8, 79#8], rfl⟩
  handlerMisfits := []
  itcBase := 64

/-- The block with the example parameters right after reset. -/
def ex : State := State.resetWith exParams

/-- The same with RB_N = 4 (RB-7 to RB-9, P4). -/
def ex4 : State := State.resetWith { exParams with rbN := 4 }

/-- A running acquisition: TT = 10, TICK_COUNT = 3, armed, with CPT = 12495. -/
def acq : State :=
  { ex with mode := .acq, completed := false, cpt := 12495#32, tt := 10#32, tickCount := 3#32, trigArmed := true, trigLoad := 12495#32 }

/-- A running excitation: TT = 4, TICK_COUNT = 3, pending, with CPT = 62495. -/
def exc : State :=
  { ex with completed := false, cpt := 62495#32, tt := 4#32, tickCount := 3#32, trigPending := true, trigLoad := 62495#32 }

/-- The running acquisition after its FIRE. -/
def acqP : State := { acq with trigArmed := false, trigPending := true }

/-- A handler that never fits the running acquisition's CPT (TK-9). -/
def misfit : State := { acqP with params := { exParams with handlerMisfits := [12495#32] } }

/-- The next state of an outcome, if it has one. -/
def next? : Host.Outcome State Fault Refusal → Option State
  | .next t => some t
  | .fault _ => none
  | .refused _ => none

/-! ## Well-formedness: each check refuses an ill-formed term -/

theorem test_wf_cmdIllegal : (Instr.cmdIllegal 1#32).wf = false ∧ (Instr.cmdIllegal 2#32).wf = false ∧
    (Instr.cmdIllegal 0#32).wf = true := by decide

theorem test_wf_params : exParams.wf = true ∧ { exParams with sysclkHz := 0 }.wf = false ∧
    { exParams with minCpt := 0 }.wf = false ∧ { exParams with rbN := 1 }.wf = false ∧
    { exParams with rbN := 2 ^ 32 + 1 }.wf = false ∧ { exParams with itcBase := 65 }.wf = false ∧
    { exParams with perm := ⟨#[16, 17, 18, 19, 20, 21, 22, 16], rfl⟩ }.wf = false := by decide

/-! ## Decoding: the words of the rules and of vectors RA-1 to RA-35 -/

theorem test_decode_buserr :
    decodeTxn 0x10000000001#41 = .buserrSize8 1#1 0x00#6 1#32 ∧
    decodeTxn 0x00C00000000#41 = .buserrSize8 0#1 0x0C#6 0#32 ∧
    decodeTxn 0x14400000005#41 = .buserrSize16 1#1 0x04#6 5#32 ∧
    decodeTxn 0x0CC00000000#41 = .buserrSizeRsvd 0#1 0x0C#6 0#32 ∧
    decodeTxn 0x1C000000001#41 = .buserrSizeRsvd 1#1 0x00#6 1#32 ∧
    decodeTxn 0x08100000000#41 = .buserrMisaligned1 0#1 0#4 0#32 ∧
    decodeTxn 0x08E00000000#41 = .buserrMisaligned2 0#1 3#4 0#32 ∧
    decodeTxn 0x18200000001#41 = .buserrMisaligned2 1#1 0#4 1#32 ∧
    decodeTxn 0x0BF00000000#41 = .buserrMisaligned3 0#1 15#4 0#32 := by decide

theorem test_decode_commands :
    decodeTxn 0x18000000001#41 = .beginExc ∧ decodeTxn 0x18000000002#41 = .beginAcq ∧
    decodeTxn 0x18000000000#41 = .cmdIllegal 0#32 ∧ decodeTxn 0x18000000101#41 = .cmdIllegal 0x101#32 := by decide

theorem test_decode_reads :
    decodeTxn 0x08000000000#41 = .rdCmd ∧ decodeTxn 0x08400000000#41 = .rdArgFreq ∧
    decodeTxn 0x08800000000#41 = .rdArgDur ∧ decodeTxn 0x08C12345678#41 = .rdStatus ∧
    decodeTxn 0x09000000000#41 = .rdCpt ∧ decodeTxn 0x09400000000#41 = .rdTt ∧
    decodeTxn 0x09800000000#41 = .rdTickCount ∧ decodeTxn 0x09C00000000#41 = .rdRbWidx ∧
    decodeTxn 0x0A000000000#41 = .rdRbRidx ∧ decodeTxn 0x0A400000000#41 = .rdRbData ∧
    decodeTxn 0x0A800000000#41 = .rdOvrCount ∧ decodeTxn 0x0AC00000000#41 = .rdOutCode := by decide

theorem test_decode_writes :
    decodeTxn 0x18400002710#41 = .wrArgFreq 10000#32 ∧ decodeTxn 0x18800000064#41 = .wrArgDur 100#32 ∧
    decodeTxn 0x18CFFFFFFFF#41 = .wrStatus 0xFFFFFFFF#32 ∧ decodeTxn 0x19000000001#41 = .wrCpt 1#32 ∧
    decodeTxn 0x19400000000#41 = .wrTt 0#32 ∧ decodeTxn 0x19800000000#41 = .wrTickCount 0#32 ∧
    decodeTxn 0x19C00000000#41 = .wrRbWidx 0#32 ∧ decodeTxn 0x1A000000000#41 = .wrRbRidx 0#32 ∧
    decodeTxn 0x1A400001234#41 = .wrRbData 0x1234#32 ∧ decodeTxn 0x1A800000000#41 = .wrOvrCount 0#32 ∧
    decodeTxn 0x1AC00000000#41 = .wrOutCode 0#32 := by decide

theorem test_decode_reserved :
    decodeTxn 0x0B000000000#41 = .rdRsvd 0#2 ∧ decodeTxn 0x0B400000000#41 = .rdRsvd 1#2 ∧
    decodeTxn 0x0B800000000#41 = .rdRsvd 2#2 ∧ decodeTxn 0x0BC00000000#41 = .rdRsvd 3#2 ∧
    decodeTxn 0x1B012345678#41 = .wrRsvd 0#2 0x12345678#32 ∧
    decodeTxn 0x1BCDEADBEEF#41 = .wrRsvd 3#2 0xDEADBEEF#32 := by decide

theorem test_decode_events :
    decodeEvt 0x0#4 0#16 = some .reset ∧ decodeEvt 0x1#4 0#16 = some .fire ∧
    decodeEvt 0x2#4 0xABCD#16 = some (.tick 0xABCD#16) ∧ decodeEvt 0x3#4 0#16 = none ∧
    decodeEvt 0xF#4 0#16 = none := by decide

/-- Table words as the host hands them over: TXN41 in six bytes, EVT4 in one, TICK's argument above it. -/
theorem test_decodeTableWord :
    decodeTableWord 48 0x18000000001 = some .beginExc ∧ decodeTableWord 48 0x20000000000 = none ∧
    decodeTableWord 8 0x1 = some .fire ∧ decodeTableWord 8 0x2 = some (.tick 0#16) ∧
    decodeTableWord 8 0x3 = none ∧ decodeTableWord 24 0x123402 = some (.tick 0x1234#16) ∧
    decodeTableWord 8 0x12 = none := by decide

/-! ## DERIVE: DV-1, DV-2, DV-8, DV-10, DV-11, DV-17, DV-18, DV-25, DV-26, DV-32 -/

theorem test_derive_ok :
    derive exParams .acq 10000#32 100#32 = .ok 12495#32 1000#32 ∧
    derive exParams .exc 1701#32 50#32 = .ok 4588#32 1360#32 ∧
    derive exParams .acq 10000000#32 1#32 = .ok 8#32 10000#32 ∧
    derive exParams .acq 22727272#32 1#32 = .ok 1#32 22727#32 ∧
    derive exParams .acq 1000#32 4294967295#32 = .ok 124995#32 4294967295#32 ∧
    derive exParams .exc 1#32 1#32 = .ok 7812495#32 0#32 := by decide

theorem test_derive_err :
    derive exParams .acq 22727273#32 1#32 = .err .cptLow ∧
    derive exParams .exc 4294967295#32 4294967295#32 = .err .cptLow ∧
    derive exParams .acq 0#32 5#32 = .err .freqZero ∧
    derive exParams .acq 1001#32 4294967295#32 = .err .ttHigh ∧
    derive { exParams with sysclkHz := 10000000000 } .acq 1#32 1#32 = .err .cptHigh := by decide

/-! ## Waveform tables: WT-5 to WT-8 and exc_code(0), (4), (15), (16) -/

theorem test_wt : wt exParams.perm 0x80#8 = 0x04000000#32 ∧ wt exParams.perm 0xFF#8 = 0x047F0000#32 ∧
    wt exParams.perm 0xA5#8 = 0x04250000#32 ∧ wt exParams.perm 0x5A#8 = 0x005A0000#32 := by decide

theorem test_excCode : excCode exParams 0#32 = 0x04000000#32 ∧ excCode exParams 4#32 = 0x047F0000#32 ∧
    excCode exParams 15#32 = 0x004F0000#32 ∧ excCode exParams 16#32 = 0x04000000#32 := by decide

/-! ## Bus errors: RA-28 to RA-30, RA-26, RA-32, RA-34 record the triple and change no register -/

theorem test_buserr_sizes :
    next? (exec (.buserrSize8 1#1 0x00#6 1#32) ex) =
      some { ex with faults := [.busError 1#1 0b00#2 0x00#6], response := .fault (.busError 1#1 0b00#2 0x00#6) } ∧
    (next? (exec (.buserrSize16 1#1 0x04#6 5#32) ex)).map (·.faults) = some [.busError 1#1 0b01#2 0x04#6] ∧
    (next? (exec (.buserrSizeRsvd 1#1 0x00#6 1#32) ex)).map (·.faults) = some [.busError 1#1 0b11#2 0x00#6] := by decide

theorem test_buserr_misaligned :
    (next? (exec (.buserrMisaligned1 0#1 0#4 0#32) ex)).map (·.faults) = some [.busError 0#1 0b10#2 0x01#6] ∧
    (next? (exec (.buserrMisaligned2 0#1 3#4 0#32) ex)).map (·.faults) = some [.busError 0#1 0b10#2 0x0E#6] ∧
    (next? (exec (.buserrMisaligned3 0#1 15#4 0#32) ex)).map (·.faults) = some [.busError 0#1 0b10#2 0x3F#6] := by decide

/-! ## Commands: CT-1 to CT-10 -/

theorem test_beginAcq_starts : next? (exec .beginAcq { ex with argFreq := 10000#32, argDur := 100#32 }) =
    some { ex with
      argFreq := 10000#32, argDur := 100#32, cpt := 12495#32, tt := 1000#32, mode := .acq, completed := false
      trigArmed := true, trigLoad := 12495#32, response := .ack } := by decide

theorem test_beginAcq_rejected :
    (next? (exec .beginAcq { acq with argFreq := 0#32 })).map State.statusWord = some 0x12#32 ∧
    (next? (exec .beginAcq { ex with mode := .acq, argDur := 5#32 })).map State.statusWord = some 0x123#32 ∧
    (next? (exec .beginAcq { ex with argFreq := 1000#32 })).map State.statusWord = some 0x3#32 := by decide

theorem test_beginExc_starts : next? (exec .beginExc { ex with argFreq := 1701#32, argDur := 50#32 }) =
    some { ex with
      argFreq := 1701#32, argDur := 50#32, cpt := 4588#32, tt := 1360#32, completed := false
      trigArmed := true, trigLoad := 4588#32, response := .ack } := by decide

theorem test_beginExc_busy : next? (exec .beginExc { acq with argFreq := 1#32 }) =
    some { acq with argFreq := 1#32, result := .busy, response := .ack } := by decide

theorem test_cmdIllegal : (next? (exec (.cmdIllegal 3#32) ex)).map State.statusWord = some 0x31#32 ∧
    (next? (exec (.cmdIllegal 3#32) exc)).map State.statusWord = some 0x30#32 := by decide

/-! ## Register reads: one state with a different value in every register -/

/-- A state in which every readable register differs. -/
def many : State :=
  { acq with
    argFreq := 1#32, argDur := 2#32, cpt := 0x30CF#32, tt := 0x3E8#32, tickCount := 5#32, rbWidx := 7, rbRidx := 6
    rbMem := [(6, 0xABCD#16)], ovrCount := 8#32, outCode := 9#32, result := .cfgErr, cfgCause := .ttHigh }

theorem test_reads_arguments :
    (next? (exec .rdCmd many)).map (·.response) = some (.data 0#32) ∧
    (next? (exec .rdArgFreq many)).map (·.response) = some (.data 1#32) ∧
    (next? (exec .rdArgDur many)).map (·.response) = some (.data 2#32) ∧
    (next? (exec (.rdRsvd 3#2) many)).map (·.response) = some (.data 0#32) := by decide

theorem test_reads_sequence :
    (next? (exec .rdStatus many)).map (·.response) = some (.data 0x426#32) ∧
    (next? (exec .rdCpt many)).map (·.response) = some (.data 0x30CF#32) ∧
    (next? (exec .rdTt many)).map (·.response) = some (.data 0x3E8#32) ∧
    (next? (exec .rdTickCount many)).map (·.response) = some (.data 5#32) := by decide

theorem test_reads_buffer :
    (next? (exec .rdRbWidx many)).map (·.response) = some (.data 7#32) ∧
    (next? (exec .rdRbRidx many)).map (·.response) = some (.data 6#32) ∧
    (next? (exec .rdOvrCount many)).map (·.response) = some (.data 8#32) ∧
    (next? (exec .rdOutCode many)).map (·.response) = some (.data 9#32) := by decide

/-- RB-2: the pop. -/
theorem test_rdRbData_pops : next? (exec .rdRbData many) =
    some { many with rbRidx := 7, response := .data 0x8000ABCD#32 } := by decide

/-- RB-1 and RB-3: empty gives 0, a sample of 0 gives 0x80000000, and the index wraps. -/
theorem test_rdRbData_corners : next? (exec .rdRbData ex) = some { ex with response := .data 0#32 } ∧
    next? (exec .rdRbData { ex with rbRidx := 255, rbMem := [(255, 0#16)] }) =
      some { ex with rbRidx := 0, rbMem := [(255, 0#16)], response := .data 0x80000000#32 } := by decide

/-! ## Register writes -/

theorem test_writes_arguments :
    next? (exec (.wrArgFreq 7#32) acq) = some { acq with argFreq := 7#32, response := .ack } ∧
    next? (exec (.wrArgDur 100#32) ex) = some { ex with argDur := 100#32, response := .ack } := by decide

theorem test_writes_ignored :
    next? (exec (.wrStatus 0xFFFFFFFF#32) many) = some { many with response := .ack } ∧
    next? (exec (.wrCpt 1#32) many) = some { many with response := .ack } ∧
    next? (exec (.wrTt 1#32) many) = some { many with response := .ack } ∧
    next? (exec (.wrTickCount 1#32) many) = some { many with response := .ack } ∧
    next? (exec (.wrRbWidx 1#32) many) = some { many with response := .ack } ∧
    next? (exec (.wrRbRidx 1#32) many) = some { many with response := .ack } ∧
    next? (exec (.wrRbData 1#32) many) = some { many with response := .ack } ∧
    next? (exec (.wrOvrCount 1#32) many) = some { many with response := .ack } ∧
    next? (exec (.wrOutCode 1#32) many) = some { many with response := .ack } ∧
    next? (exec (.wrRsvd 3#2 0xDEADBEEF#32) many) = some { many with response := .ack } := by decide

/-! ## Events: TK-1 to TK-9, RB-4, RB-7, RB-10, RS-1 -/

theorem test_fire : next? (exec .fire acq) = some acqP ∧ next? (exec .fire ex) = none := by decide

/-- TK-4 and RB-4: the slot, the index, the count and the re-arm. -/
theorem test_tick_pushes : next? (exec (.tick 0x1234#16) { acqP with rbWidx := 255, rbRidx := 10, trigLoad := 0#32 }) =
    some { acq with rbWidx := 0, rbRidx := 10, rbMem := [(255, 0x1234#16)], tickCount := 4#32 } := by decide

/-- TK-6 completes; RB-7's last push laps; RB-10 wraps OVR_COUNT. -/
theorem test_tick_completes_and_laps : next? (exec (.tick 0xE#16)
    { ex4 with
      mode := .acq, completed := false, tt := 1#32, trigPending := true, rbMem := [(0, 0xA#16)], rbWidx := 0, rbRidx := 1
      ovrCount := 0xFFFFFFFF#32 }) =
    some { ex4 with
      mode := .acq, completed := true, tt := 1#32, tickCount := 1#32, rbMem := [(0, 0xE#16)], rbWidx := 1, rbRidx := 1 } := by
  decide

/-- TK-7: the last excitation tick. -/
theorem test_tick_drives : next? (exec (.tick 0x1234#16) exc) =
    some { exc with completed := true, trigPending := false, tickCount := 4#32, outCode := 0x04750000#32 } := by decide

/-- TK-9: the overrun. -/
theorem test_tick_overrun : next? (exec (.tick 0x1234#16) misfit) =
    some { misfit with faults := [.tickOverrun 12495#32], response := .fault (.tickOverrun 12495#32) } := by decide

/-- RS-1 and RS-2: FAULTS stays, the pending fire is dropped. -/
theorem test_reset : next? (exec .reset { misfit with faults := [.tickOverrun 12495#32] }) =
    some { ex with params := misfit.params, faults := [.tickOverrun 12495#32], rbDraws := 1 } ∧
    (next? (exec .reset many)).map State.statusWord = some 1#32 := by decide

/-! ## The step and the placed word -/

theorem test_step_withFetchWord :
    next? (step (ex.withFetchWord 48 0x18400002710)) = some { ex with argFreq := 10000#32, response := .ack } ∧
    next? (step (acq.withFetchWord 8 0x1)) = some acqP ∧ next? (step (ex.withFetchWord 8 0x3)) = none := by decide

/-- A bus access at ITC_BASE + 4 is WR_ARG_FREQ; one at ITC_BASE + 64 does not reach the block. -/
theorem test_step_access :
    next? (step { ex with schedule := [.access 68 1#1 0b10#2 5#32] }) = some { ex with argFreq := 5#32, response := .ack } ∧
    next? (step { ex with schedule := [.access 128 1#1 0b10#2 5#32] }) = some ex := by decide

/-- The host's side: P3's line `wr CMD, 2`, and a framed stream of one sample of 0xFFFF. -/
theorem test_host : assemble (wr .cmd 2#32) = .txn 0x18000000002#41 ∧
    streamBytes (frame [0x0100#16, 0xFFFF#16]) =
      [0xFF#8, 0xFF#8, 0x00#8, 0x01#8, 0xFF#8, 0xFF#8, 0xFF#8, 0xFF#8] ∧
    drained [0x80000102#32, 0#32, 0x80000103#32] = [0x0102#16] := by decide

/-- R290: both begin calls take three writes and a STATUS read for the result; a drain ends at the first empty read. -/
theorem test_host_calls :
    (HostCall.beginExcitation 1701#32 50#32).step [.ack, .ack] = .issue (wr .cmd 1#32) ∧
    (HostCall.beginExcitation 1701#32 50#32).step [.ack, .ack, .ack] = .issue (rd .status) ∧
    (HostCall.beginAcquisition 0#32 5#32).step [.ack, .ack, .ack, .data 0x123#32] = .done (.begun 2#2 1#3) ∧
    HostCall.drainAvailableSamples.step [.data 0x80000102#32] = .issue (rd .rbData) ∧
    HostCall.drainAvailableSamples.step [.data 0x80000102#32, .data 0#32] = .done (.samples [0x0102#16]) := by decide

/-- R364: a leftover RESET does not deny the end of a run, a leftover bus access does. -/
theorem test_run_end : { ex with schedule := [.evt 0#4 0#16] }.RunEnd ∧
    ¬ { ex with schedule := [.txn 0x08C00000000#41] }.RunEnd ∧ ¬ acq.RunEnd := by
  unfold State.RunEnd State.Settled
  decide

/-! ## Witnesses: for each statement with hypotheses, a state and operands that meet them, at the boundary values of
each clause -/

theorem control_acq : acq.ControlInv := by constructor <;> decide

theorem control_acqP : acqP.ControlInv := by constructor <;> decide

theorem control_exc : exc.ControlInv := by constructor <;> decide

theorem control_ex : ex.ControlInv := by constructor <;> decide

theorem ring_acqP : acqP.RingInv := by constructor <;> decide

theorem ring_ex : ex.RingInv := by constructor <;> decide

/-- Three unread samples in a buffer of four slots. -/
def full4 : State := { acqP with params := ex4.params, rbWidx := 3, rbMem := [(0, 1#16), (1, 2#16), (2, 3#16)] }

theorem ring_full4 : full4.RingInv := by constructor <;> decide

theorem ring_many : many.RingInv := by constructor <;> decide

theorem witness_DecodeOfEncodeIsTheInstr : (Instr.cmdIllegal 0#32).wf = true ∧ (Instr.cmdIllegal 3#32).wf = true := by decide

/-- A label of each code at the clauses' boundaries: 0, 1, 2, 3 and 15. -/
theorem witness_EventCodesDecode : ∀ code ∈ [0#4, 1#4, 2#4, 3#4, 15#4],
    { acqP with schedule := [.evt code 7#16] }.schedule = .evt code 7#16 :: [] ∧
      (code = 0#4 ∨ code = 1#4 ∨ code = 2#4 ∨ 2#4 < code) := by decide

theorem witness_StepRunsTheDecodedInstr :
    { ex with schedule := [.txn 0x08C00000000#41] }.schedule = .txn 0x08C00000000#41 :: [] ∧
      decodeLabel ex.params.itcBase (.txn 0x08C00000000#41) = .instr .rdStatus := by decide

theorem witness_StepTakesTheBlocksOwnEvent :
    (acqP.schedule = [] ∧ acqP.trigPending = true ∧ acqP.mode = .acq) ∧
    (exc.schedule = [] ∧ exc.trigPending = true ∧ exc.mode = .exc) ∧
    (acq.schedule = [] ∧ acq.trigPending = false ∧ acq.trigArmed = true) ∧
    (ex.schedule = [] ∧ ex.trigPending = false ∧ ex.trigArmed = false) := by decide

/-- Inside at ITC_BASE and ITC_BASE + 63, outside at ITC_BASE - 1 and ITC_BASE + 64. -/
theorem witness_WindowDecodesBusAddresses :
    (∀ a ∈ [63, 64, 127, 128], { ex with schedule := [.access a 0#1 0b10#2 0#32] }.schedule =
      .access a 0#1 0b10#2 0#32 :: []) ∧
    (∀ a ∈ [64, 127], ex.params.itcBase ≤ a ∧ a < ex.params.itcBase + 64) ∧
    (∀ a ∈ [63, 128], ¬ (ex.params.itcBase ≤ a ∧ a < ex.params.itcBase + 64)) := by decide

theorem witness_PopFollowsTheRule : ex.rbWidx = ex.rbRidx ∧
    ({ ex with rbRidx := 255 }.rbWidx ≠ { ex with rbRidx := 255 }.rbRidx ∧
      { ex with rbRidx := 255 }.rbRidx < { ex with rbRidx := 255 }.params.rbN) := by decide

theorem witness_IgnoredWritesChangeNothing : Instr.wrRsvd 3#2 0#32 ∈ ([.wrStatus 0#32, .wrCpt 0#32, .wrTt 0#32, .wrTickCount 0#32,
    .wrRbWidx 0#32, .wrRbRidx 0#32, .wrRbData 0#32, .wrOvrCount 0#32, .wrOutCode 0#32, .wrRsvd 3#2 0#32] : List Instr) := by decide

theorem witness_BusErrorsRecordTheAccess : (Instr.buserrMisaligned3 1#1 15#4 0#32, FaultRec.busError 1#1 2#2 (15#4 ++ 3#2)) ∈
    ([(.buserrSize8 1#1 0#6 0#32, .busError 1#1 0#2 0#6), (.buserrSize16 1#1 0#6 0#32, .busError 1#1 1#2 0#6),
      (.buserrSizeRsvd 1#1 0#6 0#32, .busError 1#1 3#2 0#6),
      (.buserrMisaligned1 1#1 15#4 0#32, .busError 1#1 2#2 (15#4 ++ 1#2)),
      (.buserrMisaligned2 1#1 15#4 0#32, .busError 1#1 2#2 (15#4 ++ 2#2)),
      (.buserrMisaligned3 1#1 15#4 0#32, .busError 1#1 2#2 (15#4 ++ 3#2))] : List (Instr × FaultRec)) := by decide

/-- A byte access, an access at offset 0x3F, and a legal read that completes. -/
theorem witness_IllegalAccessIsABusError :
    Txn.size 0x10000000001#41 ≠ 0b10#2 ∧ offLow (Txn.off 0x0BF00000000#41) ≠ 0#2 ∧
    (Txn.size 0x08C00000000#41 = 0b10#2 ∧ offLow (Txn.off 0x08C00000000#41) = 0#2 ∧
      next? (exec (decodeTxn 0x08C00000000#41) ex) = some { ex with response := .data 1#32 }) := by decide

theorem witness_IllegalCommandReportsOnly : (0#32 : Word) ≠ 1#32 ∧ (0#32 : Word) ≠ 2#32 ∧ (3#32 : Word) ≠ 1#32 ∧
    (3#32 : Word) ≠ 2#32 := by decide

theorem witness_BusyBeginChangesNothingElse : Instr.beginAcq ∈ ([.beginExc, .beginAcq] : List Instr) ∧
    acq.completed = false := by decide

/-- One idle state for each of the four causes. -/
theorem witness_FailedBeginReportsTheCause :
    (Instr.beginAcq, Mode.acq) ∈ ([(.beginExc, .exc), (.beginAcq, .acq)] : List (Instr × Mode)) ∧ ex.completed = true ∧
    derive ex.params .acq 0#32 0#32 = .err .freqZero ∧ derive ex.params .acq 22727273#32 0#32 = .err .cptLow ∧
    derive ex.params .acq 1001#32 4294967295#32 = .err .ttHigh ∧
    derive { ex.params with sysclkHz := 10000000000 } .acq 1#32 1#32 = .err .cptHigh := by decide

/-- A start with TT = 1 and an immediate completion. -/
theorem witness_BeginStartsOrCompletesAtOnce :
    (Instr.beginAcq, Mode.acq) ∈ ([(.beginExc, .exc), (.beginAcq, .acq)] : List (Instr × Mode)) ∧ ex.completed = true ∧
    derive ex.params .acq 1999#32 1#32 = .ok 62526#32 1#32 ∧ derive ex.params .exc 1#32 1#32 = .ok 7812495#32 0#32 := by decide

/-- The four outcomes, a configuration error among them: ILLEGAL_CMD, BUSY, CFG_ERR with cause 1, OK. -/
theorem witness_CommandEndsWithOneOutcome :
    (next? (exec (decodeTxn (Txn.make 1#1 0b10#2 0x00#6 3#32)) ex)).map (·.result) = some .illegalCmd ∧
    (next? (exec (decodeTxn (Txn.make 1#1 0b10#2 0x00#6 1#32)) acq)).map (·.result) = some .busy ∧
    (next? (exec (decodeTxn (Txn.make 1#1 0b10#2 0x00#6 2#32)) ex)).map (fun t => (t.result, t.cfgCause.code)) =
      some (.cfgErr, 1#3) ∧
    (next? (exec (decodeTxn (Txn.make 1#1 0b10#2 0x00#6 2#32)) { ex with argFreq := 1999#32 })).map (·.result) = some .ok := by
  decide

theorem witness_CyclesAreRoundedHalfUp : 1 ≤ effFreq .acq 1#32 ∧ cptRaw exParams 2000000 = 63 := by decide

theorem witness_TicksAreTruncated : 1 ≤ effFreq .acq 1#32 ∧ ttOf 999#32 1 = 0 := by decide

/-- DERIVE's clauses at their boundaries: freq 0; cpt 0 and MIN_CPT = 1; cpt and tt at and above 2^32 - 1. -/
theorem witness_DeriveIsTheFirstFailingCheck :
    (cptOf exParams 22727273 = 0 ∧ cptOf exParams 22727272 = 1) ∧
    (cptOf { exParams with sysclkHz := 4294967300 } 1 = 2 ^ 32 - 1 ∧ cptOf { exParams with sysclkHz := 4294967301 } 1 = 2 ^ 32) ∧
    (ttOf 4294967295#32 1000 = 2 ^ 32 - 1 ∧ ttOf 4294967295#32 1001 > 2 ^ 32 - 1) ∧
    { exParams with sysclkHz := 2 ^ 32 - 1 }.sysclkHz ≤ 2 ^ 32 - 1 := by decide

theorem witness_DeriveOkIsLegal : exParams.wf = true ∧ derive exParams .acq 22727272#32 1#32 = .ok 1#32 22727#32 := by decide

theorem witness_WaveformTableScattersBits : exParams.perm.toList.Nodup ∧
    (wt exParams.perm 0x80#8).getLsbD 26 = true := by decide

theorem witness_WaveformTableIsInvertible : exParams.perm.toList.Nodup ∧ wt exParams.perm 7#8 = wt exParams.perm 7#8 := by decide

theorem witness_WaveformTableCorners : exParams.perm.toList.Nodup := by decide

theorem witness_ExcitationCodeIsPeriodic : (0#32 : Word).toNat % 16 = (0 : Fin 16).val ∧
    (1359#32 : Word).toNat % 16 = (15 : Fin 16).val := by decide

theorem witness_FireMovesArmedToPending : acq.trigArmed = true ∧ ex.trigArmed = false := by decide

/-- A push that meets the other index and one at the last slot that does not. -/
theorem witness_AcquisitionTickStoresOneSample :
    (full4.trigPending = true ∧ handlerFits full4.params full4.cpt = true ∧ full4.mode = .acq ∧
      full4.rbWidx < full4.params.rbN ∧ (full4.rbWidx + 1) % full4.params.rbN = full4.rbRidx) ∧
    (acqP.trigPending = true ∧ handlerFits acqP.params acqP.cpt = true ∧ acqP.mode = .acq ∧
      acqP.rbWidx < acqP.params.rbN) := by decide

theorem witness_ExcitationTickDrivesOneCode : exc.trigPending = true ∧ handlerFits exc.params exc.cpt = true ∧
    exc.mode = .exc := by decide

theorem witness_OverrunTickRecordsTheFaultOnly :
    (misfit.trigPending = true ∧ handlerFits misfit.params misfit.cpt = false) ∧ acq.trigPending = false := by decide

theorem witness_StepKeepsTheControlInvariant : acqP.ControlInv ∧
    (next? (step { acqP with schedule := [.evt 2#4 5#16] })).isSome = true :=
  ⟨control_acqP, by decide⟩

theorem witness_StepKeepsTheRingInvariant : 2 ≤ full4.params.rbN ∧ full4.RingInv ∧
    (next? (step { full4 with schedule := [.evt 2#4 5#16] })).isSome = true :=
  ⟨by decide, ring_full4, by decide⟩

theorem witness_StepKeepsOutputAndOutcome : (next? (step exc)).isSome = true ∧ exc.OutputInv ∧ exc.OutcomeInv := by
  refine ⟨by decide, ?_, ?_⟩
  · unfold State.OutputInv
    decide
  · unfold State.OutcomeInv
    decide

theorem witness_ResetStateMeetsTheInvariants : 1 ≤ { exParams with rbN := 1 }.rbN := by decide

theorem witness_FaultsOnlyGrowAndParamsStay :
    (next? (step misfit)).map (·.faults) = some [.tickOverrun 12495#32] := by decide

theorem witness_NoStepFaultsUnderTheRingInvariant : full4.RingInv ∧ many.RingInv := ⟨ring_full4, ring_many⟩

/-- A write, a BEGIN, a pop and a TICK that complete. -/
theorem witness_EachFieldHasItsWriters :
    (next? (exec (.wrArgFreq 1#32) ex)).isSome = true ∧ (next? (exec .beginAcq ex)).isSome = true ∧
    (next? (exec .rdRbData many)).isSome = true ∧ (next? (exec (.tick 1#16) acqP)).isSome = true ∧
    Instr.tick 1#16 ≠ .reset := by decide

/-- A BEGIN and a TICK while a sequence runs, and a BEGIN that changes MODE. -/
theorem witness_ModeAndRateAreFixedInASequence : acqP.completed = false ∧ Instr.beginExc ≠ .reset ∧
    (next? (exec .beginExc acqP)).map (·.result) = some .busy ∧ (next? (exec (.tick 1#16) acqP)).isSome = true ∧
    (next? (exec .beginAcq { ex with argFreq := 1999#32 })).map (·.mode) = some .acq ∧ ex.mode = .exc := by decide

theorem witness_ModesAreIsolated : (next? (exec (.tick 1#16) acqP)).isSome = true ∧ acqP.mode = .acq ∧
    (next? (exec (.tick 1#16) exc)).isSome = true ∧ exc.mode = .exc := by decide

theorem witness_IdleBlockIsQuiet : ex.ControlInv ∧ ex.completed = true ∧ ex.schedule = [] :=
  ⟨control_ex, by decide, by decide⟩

theorem witness_FireCommutesWithBusAccesses : acq.completed = false ∧ acq.trigArmed = true ∧ Instr.rdRbData ≠ .reset ∧
    Instr.rdRbData ≠ .fire ∧ (next? (exec .rdRbData acq)).isSome = true := by decide

theorem witness_TriggerLoadIsNotObservable : (next? (exec (.tick 1#16) acqP)).map (·.trigLoad) = some 12495#32 := by decide

/-- An idle block with ARG = (1999, 1), for TT = 1 (DV-23), and one FIRE and TICK pair scheduled. -/
def idle1 : State :=
  { ex with argFreq := 1999#32, argDur := 1#32, schedule := [.evt 1#4 0#16, .evt 2#4 0xABCD#16] }

theorem witness_StartedSequenceTakesExactlyTtTicks :
    2 ≤ idle1.params.rbN ∧ idle1.ControlInv ∧ idle1.RingInv ∧ idle1.completed = true ∧
    (∃ t, exec .beginAcq idle1 = .next t ∧ t.completed = false ∧ handlerFits t.params t.cpt = true ∧
      [0xABCD#16].length = t.tt.toNat ∧
      t.schedule = ([0xABCD#16].flatMap fun x => [.evt 0x1#4 0#16, .evt 0x2#4 x]) ++ []) := by
  refine ⟨by decide, ?_, ?_, by decide, _, rfl, by decide, by decide, by decide, by decide⟩
  · constructor <;> decide
  · constructor <;> decide

/-- The excitation case: ARG = (63, 1) gives f_eff = 1008 and TT = 1. -/
def idleExc : State := { idle1 with argFreq := 63#32 }

theorem witness_SequenceOutputIsFixedByTheTickNumber :
    2 ≤ idleExc.params.rbN ∧ idleExc.ControlInv ∧ idleExc.RingInv ∧ idleExc.completed = true ∧
    (∃ t, exec .beginExc idleExc = .next t ∧ t.completed = false ∧ handlerFits t.params t.cpt = true ∧
      [0xABCD#16].length = t.tt.toNat ∧
      t.schedule = ([0xABCD#16].flatMap fun x => [.evt 0x1#4 0#16, .evt 0x2#4 x]) ++ []) := by
  refine ⟨by decide, ?_, ?_, by decide, _, rfl, by decide, by decide, by decide, by decide⟩
  · constructor <;> decide
  · constructor <;> decide

/-- An execution: the last FIRE and TICK of the running acquisition, then STATUS reads for ever. -/
def fairState : Nat → State
  | 0 => { acq with tickCount := 9#32 }
  | 1 => { acqP with tickCount := 9#32 }
  | 2 => { acqP with trigPending := false, completed := true, tickCount := 10#32, rbMem := [(0, 7#16)], rbWidx := 1 }
  | _ + 3 =>
    { acqP with
      trigPending := false, completed := true, tickCount := 10#32, rbMem := [(0, 7#16)], rbWidx := 1
      response := .data 7#32 }

/-- Its operations. -/
def fairOp : Nat → Instr
  | 0 => .fire
  | 1 => .tick 7#16
  | _ + 2 => .rdStatus

theorem fairState_executes : Executes fairState fairOp
  | 0 => rfl
  | 1 => rfl
  | 2 => rfl
  | n + 3 => by
    show exec .rdStatus (fairState 3) = .next (fairState 3)
    rfl

theorem fairState_weaklyFair : WeaklyFair fairState fairOp
  | 0 => ⟨fun _ => ⟨0, by decide, .inl rfl⟩, fun h => absurd h (by decide)⟩
  | 1 => ⟨fun h => absurd h (by decide), fun _ => ⟨1, by decide, .inl ⟨_, rfl⟩⟩⟩
  | 2 => ⟨fun h => absurd h (by decide), fun h => absurd h (by decide)⟩
  | _ + 3 => ⟨fun h => absurd (show false = true from h) (by decide), fun h => absurd (show false = true from h) (by decide)⟩

theorem fairState_faults : ∀ n, (fairState n).faults = []
  | 0 => rfl
  | 1 => rfl
  | 2 => rfl
  | _ + 3 => rfl

theorem fairOp_no_reset : ∀ n, fairOp n ≠ .reset
  | 0 => by decide
  | 1 => by decide
  | _ + 2 => by simp [fairOp]

theorem witness_FairExecutionCompletesTheSequence :
    Executes fairState fairOp ∧ WeaklyFair fairState fairOp ∧ (∀ n, (fairState n).faults = []) ∧
    (∀ n, fairOp n ≠ .reset) ∧ (fairState 0).ControlInv ∧ (fairState 0).completed = false := by
  refine ⟨fairState_executes, fairState_weaklyFair, fairState_faults, fairOp_no_reset, ?_, by decide⟩
  constructor <;> decide

/-- A buffer with RB_N - 1 unread samples, and one with fewer. -/
theorem witness_PushAppendsOrLaps :
    (2 ≤ full4.params.rbN ∧ full4.RingInv ∧ full4.trigPending = true ∧ handlerFits full4.params full4.cpt = true ∧
      full4.mode = .acq ∧ full4.unread.length = full4.params.rbN - 1) ∧
    (acqP.RingInv ∧ acqP.unread.length < acqP.params.rbN - 1) :=
  ⟨⟨by decide, ring_full4, by decide, by decide, by decide, by decide⟩, ring_acqP, by decide⟩

theorem witness_PopReturnsTheOldestUnread : full4.RingInv ∧ full4.unread = 1#16 :: [2#16, 3#16] ∧ ex.RingInv ∧ ex.unread = [] :=
  ⟨ring_full4, by decide, ring_ex, by decide⟩

theorem witness_UnreadPushesAreTruncated : 2 ≤ ex.params.rbN ∧ ex.RingInv ∧ ex.rbWidx = ex.rbRidx :=
  ⟨by decide, ring_ex, by decide⟩

theorem witness_BlockParametersAreWellFormed :
    ¬ (⟨#[16, 17, 18, 19, 20, 21, 22, 16], rfl⟩ : Vector (Fin 32) 8).toList.Nodup ∧ exParams.wf = true := by decide

theorem witness_BusWordIsLittleEndian : 0 < 8 ∧ 7 < 8 ∧ byteLane 0x11223344#32 3 = 0x11#8 := by decide

/-- The moves of an acquisition of one sample: its host's eleven transactions with a FIRE and a TICK after the BEGIN. -/
def acquireMoves : List Move :=
  List.replicate 6 .host ++ [.fire, .tick 0xABCD#16] ++ List.replicate 5 .host

theorem witness_AcquireStreamsEverySample :
    2 ≤ ex.params.rbN ∧ ex.ControlInv ∧ ex.RingInv ∧ ex.CleanIdle ∧ Move.reset ∉ acquireMoves ∧
    (∃ z, System.moves ⟨ex, HostState.acquire 1999#32 1#32⟩ acquireMoves = .next z ∧ z.host.phase = .finished ∧
      z.block.faults = [] ∧ z.host.ovr1 = z.host.ovr0) := by
  refine ⟨by decide, control_ex, ring_ex, ?_, by decide, _, rfl, by decide, by decide, by decide⟩
  unfold State.CleanIdle
  decide

theorem witness_ApiCallsReportTheOutcome : (HostCall.beginExcitation 1701#32 50#32, Instr.beginExc) ∈
    ([(.beginExcitation 1701#32 50#32, .beginExc), (.beginAcquisition 1701#32 50#32, .beginAcq)] :
      List (HostCall × Instr)) := by decide

/-- A buffer with unread samples and an empty one. -/
theorem witness_DrainCallReturnsTheUnreadSamples : full4.RingInv ∧ full4.unread.length = 3 ∧ ex.RingInv ∧
    ex.unread.length = 0 := ⟨ring_full4, by decide, ring_ex, by decide⟩

theorem witness_FinishedAcquisitionEndsItsRun :
    (ex.ControlInv ∧ Move.reset ∉ acquireMoves ∧
      ∃ z, System.moves ⟨ex, HostState.acquire 1999#32 1#32⟩ acquireMoves = .next z ∧ z.host.phase = .finished ∧
        z.block.faults = []) ∧
    System.RunEnd ⟨ex, HostState.program []⟩ := by
  refine ⟨⟨control_ex, by decide, _, rfl, by decide, by decide⟩, ?_⟩
  unfold System.RunEnd State.Settled
  decide

end Sys2Proof.Tests
end

/-! PROOF. The well-formedness of an instance's parameters as propositions, and of the block's own (R7, R121). -/

namespace Sys2Proof

/-- The conditions of R7, R121 and R60, one conjunct each. -/
theorem Params.wf_iff (p : Params) : p.wf = true ↔
    1 ≤ p.sysclkHz ∧ 1 ≤ p.minCpt ∧ (2 ≤ p.rbN ∧ p.rbN ≤ 2 ^ 32) ∧ p.perm.toList.Nodup ∧ p.itcBase % 64 = 0 := by
  simp only [Params.wf, Bool.and_eq_true, decide_eq_true_eq, and_assoc]

namespace Config

/-- PERM is the first 8 values of a permutation of the lines, so no two input bits share a line (R121, log 2). -/
theorem block_perm_nodup : block.perm.toList.Nodup := by
  have hle : 8 ≤ 32 := by decide
  have hlist : block.perm.toList = List.ofFn (linePerm ∘ Fin.castLE hle) := Vector.toList_ofFn
  rw [hlist, List.nodup_ofFn]
  exact linePerm.injective.comp (Fin.castLE_injective hle)

/-- ITC_BASE is a multiple of the window's 64 bytes (R60, log 2). -/
theorem block_itcBase_aligned : block.itcBase % 64 = 0 := Nat.mul_mod_right 64 itcBasePage

theorem block_wf : block.wf = true :=
  block.wf_iff.2 ⟨Nat.le_add_left 1 sysclkHzLessOne, by decide, by decide, block_perm_nodup, block_itcBase_aligned⟩

end Config

namespace Machine

theorem State.configure_of_wf {p : Params} (h : p.wf = true) : State.configure p = .ok (State.resetWith p) :=
  if_pos h

theorem State.configure_of_not_wf {p : Params} (h : ¬ p.wf = true) : State.configure p = .error .illFormedParams :=
  if_neg h

theorem State.configure_eq_ok_iff (p : Params) : State.configure p = .ok (State.resetWith p) ↔ p.wf = true := by
  refine ⟨fun hok => ?_, State.configure_of_wf⟩
  by_contra hwf
  rw [State.configure_of_not_wf hwf] at hok
  cases hok

/-- Settles O53: the free constants enter the block only in forms that are well-formed by construction, and
`configure` tests exactly `Params.wf`, of which the injectivity of PERM is a conjunct. -/
theorem blockParametersAreWellFormed : Obligations.BlockParametersAreWellFormed := by
  refine ⟨Config.block_wf, fun p => ⟨State.configure_eq_ok_iff p, fun hperm => State.configure_of_not_wf fun hwf => ?_⟩⟩
  obtain ⟨_, _, _, hnodup, _⟩ := p.wf_iff.1 hwf
  exact hperm hnodup

end Machine
end Sys2Proof

/-! PROOF. Which operation writes which element of the state: the frame of every operation but RESET. -/

namespace Sys2Proof.Machine

/-- What TICK step 2 leaves as it is: everything but OUT_CODE and the writer's side of the ring buffer (R173, R174). -/
theorem State.tickAction_frame {s u : State} {x : Sample} (h : s.tickAction x = some u) :
    u = { s with rbMem := u.rbMem, rbWidx := u.rbWidx, ovrCount := u.ovrCount, outCode := u.outCode } := by
  rcases State.tickAction_eq_some h with ⟨_, hpush⟩ | ⟨_, rfl⟩
  · obtain ⟨_, rfl⟩ := State.rbPush_eq_some hpush
    rfl
  · rfl

/-- What TICK step 1 leaves as it is: everything but COMPLETED and the arming of the trigger (R172, R175). -/
theorem State.completeOrRearm_frame (s : State) :
    s.completeOrRearm = { s with
      completed := s.completeOrRearm.completed
      trigArmed := s.completeOrRearm.trigArmed
      trigLoad := s.completeOrRearm.trigLoad } := by
  rcases s.completeOrRearm_cases with ⟨_, h⟩ | ⟨_, h⟩ <;> rw [h]

/-- What a BEGIN leaves as it is: everything but the outcome, the latched values, the counter, MODE, COMPLETED and
the arming of the trigger (R203, R205). -/
theorem State.beginSeq_frame (s : State) (m : Mode) :
    s.beginSeq m = { s with
      cpt := (s.beginSeq m).cpt
      tt := (s.beginSeq m).tt
      tickCount := (s.beginSeq m).tickCount
      mode := (s.beginSeq m).mode
      result := (s.beginSeq m).result
      cfgCause := (s.beginSeq m).cfgCause
      completed := (s.beginSeq m).completed
      trigArmed := (s.beginSeq m).trigArmed
      trigLoad := (s.beginSeq m).trigLoad } := by
  rcases s.beginSeq_cases m with ⟨_, h⟩ | ⟨_, _, _, h⟩ | ⟨_, _, _, h⟩ | ⟨_, _, _, _, _, h⟩ <;> rw [h]

/-- What a TICK without an overrun leaves as it is (R172). -/
theorem tick_frame {s u : State} {x : Sample} (h : s.completeOrRearm.tickAction x = some u) :
    u.countTick.acknowledge.respond .none = { s with
      completed := u.completed
      trigArmed := u.trigArmed
      trigLoad := u.trigLoad
      trigPending := false
      tickCount := s.tickCount + 1#32
      rbMem := u.rbMem
      rbWidx := u.rbWidx
      ovrCount := u.ovrCount
      outCode := u.outCode
      response := .none } := by
  rw [State.tickAction_frame h, s.completeOrRearm_frame]
  rfl

/-- Settles O41: in each case of what an operation can do, the next state lists the elements it writes. -/
theorem eachFieldHasItsWriters : Obligations.EachFieldHasItsWriters := by
  intro i s t h hreset
  rcases exec_eq_next h with ⟨r, rfl⟩ | ⟨d, rfl, rfl⟩ | ⟨d, rfl, rfl⟩ | ⟨f, rfl, _⟩ | ⟨m, hi, rfl⟩ | ⟨d, rfl, rfl⟩ |
    ⟨rfl, _, _, rfl⟩ | ⟨rfl, _⟩ | ⟨rfl, _, rfl⟩ | ⟨x, rfl, _, _, u, hu, rfl⟩
  · simp
  · simp
  · simp
  · simp
  · rw [s.beginSeq_frame m]
    rcases hi with ⟨rfl, _⟩ | ⟨rfl, _⟩ <;> simp
  · simp
  · simp
  · exact absurd rfl hreset
  · simp
  · rw [tick_frame hu]
    simp

end Sys2Proof.Machine

/-! PROOF. The invariants of the ring buffer, of OUT_CODE and of the command outcome are kept by every step. -/

namespace Sys2Proof.Machine

/-- No completing operation writes a parameter (R41). -/
theorem exec_params {i : Instr} {s t : State} (h : exec i s = .next t) : t.params = s.params := by
  by_cases hreset : i = .reset
  · subst hreset
    cases h
    rfl
  obtain ⟨_, _, _, _, _, hparams, _⟩ := eachFieldHasItsWriters i s t h hreset
  exact hparams

/-- A completing operation other than RESET, TICK and the pop leaves the ring buffer as it is (R234). -/
theorem exec_ring_frame {i : Instr} {s t : State} (h : exec i s = .next t) (hreset : i ≠ .reset)
    (htick : ∀ x, i ≠ .tick x) (hpop : i ≠ .rdRbData) :
    t.params = s.params ∧ t.rbMem = s.rbMem ∧ t.rbWidx = s.rbWidx ∧ t.rbRidx = s.rbRidx := by
  obtain ⟨_, _, _, hwriter, hreader, hparams, _⟩ := eachFieldHasItsWriters i s t h hreset
  obtain ⟨hmem, hwidx, _⟩ := hwriter htick
  exact ⟨hparams, hmem, hwidx, hreader hpop⟩

/-- A completing operation other than RESET and TICK leaves OUT_CODE as it is. -/
theorem exec_outCode_frame {i : Instr} {s t : State} (h : exec i s = .next t) (hreset : i ≠ .reset)
    (htick : ∀ x, i ≠ .tick x) : t.params = s.params ∧ t.outCode = s.outCode := by
  obtain ⟨_, _, _, hwriter, _, hparams, _⟩ := eachFieldHasItsWriters i s t h hreset
  obtain ⟨_, _, _, hout, _⟩ := hwriter htick
  exact ⟨hparams, hout⟩

/-- A completing operation other than RESET and the CMD writes leaves the outcome of the last CMD write (R200). -/
theorem exec_outcome_frame {i : Instr} {s t : State} (h : exec i s = .next t) (hreset : i ≠ .reset)
    (hexc : i ≠ .beginExc) (hacq : i ≠ .beginAcq) (hillegal : ∀ d, i ≠ .cmdIllegal d) :
    t.result = s.result ∧ t.cfgCause = s.cfgCause := by
  obtain ⟨_, _, hcontrol, _⟩ := eachFieldHasItsWriters i s t h hreset
  obtain ⟨_, _, _, houtcome, _⟩ := hcontrol hexc hacq
  exact houtcome hillegal

/-! ## The ring buffer -/

/-- An index after the step to the next slot is a slot (R75). -/
theorem nextSlot_lt {p : Params} (hn : 0 < p.rbN) (i : Nat) : nextSlot p i < p.rbN := Nat.mod_lt _ hn

/-- A push keeps the ring invariant: the slot it writes is the one after the unread ones, and a lap empties the
buffer (R231, R238). -/
theorem State.RingInv.rbPush {s u : State} {v : Sample} (hs : s.RingInv) (hn : 2 ≤ s.params.rbN)
    (h : s.rbPush v = some u) : u.RingInv := by
  obtain ⟨hwidx, rfl⟩ := State.rbPush_eq_some h
  obtain ⟨_, _, hocc, hslot⟩ := occ_push hn hwidx hs.ridx_lt
  refine ⟨nextSlot_lt (by omega) _, hs.ridx_lt, s.rbMem.write_keeps_wf _ v hs.canonical, fun e he => ?_, fun k hk => ?_⟩
  · rcases s.rbMem.mem_write _ v e he with rfl | he
    · exact hwidx
    · exact hs.slots_lt e he
  · have hlt : s.occupancy < s.params.rbN := Nat.mod_lt _ (by omega)
    have hk1 : k < s.occupancy + 1 := by
      have hk' : k < if s.occupancy + 1 = s.params.rbN then 0 else s.occupancy + 1 := hocc ▸ hk
      split at hk' <;> omega
    show ((s.rbMem.write s.rbWidx v).read? ((s.rbRidx + k) % s.params.rbN)).isSome
    rcases Nat.lt_succ_iff_lt_or_eq.1 hk1 with hold | rfl
    · have hne : (s.rbRidx + k) % s.params.rbN ≠ s.rbWidx := fun heq =>
        absurd (mod_inj (by omega) hlt (heq.trans hslot.symm)) (by omega)
      rw [s.rbMem.read?_write_other v hne]
      exact hs.unread_written k hold
    · have heq : (s.rbRidx + s.occupancy) % s.params.rbN = s.rbWidx := hslot
      rw [heq, RbMem.read?_write_same]
      rfl

/-- A pop keeps the ring invariant: the unread slots are those before it but the first (R233). -/
theorem State.RingInv.pop {s t : State} (hs : s.RingInv) (h : execRdRbData s = .next t) : t.RingInv := by
  rcases execRdRbData_eq_next h with ⟨_, rfl⟩ | ⟨hne, hridx, rfl⟩
  · exact hs.congr rfl rfl rfl rfl
  · have hn : 0 < s.params.rbN := by omega
    obtain ⟨hocc, _⟩ := occ_pop hn hs.widx_lt hridx hne
    refine ⟨hs.widx_lt, nextSlot_lt hn _, hs.canonical, hs.slots_lt, fun k hk => ?_⟩
    have hk1 : k + 1 < s.occupancy := lt_of_lt_of_eq (Nat.succ_lt_succ hk) hocc
    have hnext : (nextSlot s.params s.rbRidx + k) % s.params.rbN = (s.rbRidx + (k + 1)) % s.params.rbN := by
      rw [nextSlot, Nat.mod_add_mod, Nat.add_assoc, Nat.add_comm 1 k]
    show (s.rbMem.read? ((nextSlot s.params s.rbRidx + k) % s.params.rbN)).isSome
    rw [hnext]
    exact hs.unread_written (k + 1) hk1

/-- A TICK keeps the ring invariant: only an acquisition tick touches the buffer, by its push (R173, R174). -/
theorem State.RingInv.tick {s t : State} {x : Sample} (hs : s.RingInv) (hn : 2 ≤ s.params.rbN)
    (h : execTick x s = .next t) : t.RingInv := by
  obtain ⟨_, ⟨_, rfl⟩ | ⟨_, u, hu, rfl⟩⟩ := execTick_eq_next h
  · exact hs.congr rfl rfl rfl rfl
  · obtain ⟨hparams, hmem, hwidx, hridx, _⟩ := s.completeOrRearm_view
    have hs1 : s.completeOrRearm.RingInv := hs.congr (by rw [hparams]) hmem hwidx hridx
    have hu_inv : u.RingInv := by
      rcases State.tickAction_eq_some hu with ⟨_, hpush⟩ | ⟨_, rfl⟩
      · exact hs1.rbPush (by rwa [hparams]) hpush
      · exact hs1.congr rfl rfl rfl rfl
    exact hu_inv.congr rfl rfl rfl rfl

/-- After RESET the buffer is empty, with both indices at slot 0 (R350). -/
theorem State.RingInv.resetBlock (s : State) (hn : 0 < s.params.rbN) : s.resetBlock.RingInv := by
  refine ⟨hn, hn, s.resetBlock_rbMem_wf, by simp, fun k hk => ?_⟩
  have hempty : s.resetBlock.occupancy = 0 := (occ_zero hn hn).2 rfl
  omega

/-- Every completing operation keeps the ring invariant. -/
theorem State.RingInv.exec {i : Instr} {s t : State} (hs : s.RingInv) (hn : 2 ≤ s.params.rbN)
    (h : exec i s = .next t) : t.RingInv := by
  by_cases hreset : i = .reset
  · subst hreset
    cases h
    exact .resetBlock s (by omega)
  by_cases htick : ∃ x, i = .tick x
  · obtain ⟨x, rfl⟩ := htick
    exact hs.tick hn h
  by_cases hpop : i = .rdRbData
  · subst hpop
    exact hs.pop h
  obtain ⟨hparams, hmem, hwidx, hridx⟩ := exec_ring_frame h hreset (not_exists.1 htick) hpop
  exact hs.congr (by rw [hparams]) hmem hwidx hridx

/-- Settles O36: RB_N ≥ 2 is carried along, for the parameters are never written. -/
theorem stepKeepsTheRingInvariant : Obligations.StepKeepsTheRingInvariant := by
  intro s t hn hs h
  have hkeep : 2 ≤ t.params.rbN ∧ t.RingInv :=
    step_keeps (P := fun s => 2 ≤ s.params.rbN ∧ s.RingInv)
      (fun _ _ _ _ ⟨hn, hs⟩ => ⟨hn, hs.congr rfl rfl rfl rfl⟩)
      (fun _ _ _ ⟨hn, hs⟩ h => ⟨exec_params h ▸ hn, hs.exec hn h⟩) h ⟨hn, hs⟩
  exact hkeep.2

/-! ## The output lines -/

/-- Only lines of PERM are 1 in a code: what `State.OutputInv` says of OUT_CODE. -/
def DrivesOnlyPerm (perm : Vector (Fin 32) 8) (code : Word) : Prop :=
  ∀ line : Fin 32, code.getLsbD line = true → line ∈ perm.toList

theorem State.outputInv_iff (s : State) : s.OutputInv ↔ DrivesOnlyPerm s.params.perm s.outCode := Iff.rfl

theorem drivesOnlyPerm_zero (perm : Vector (Fin 32) 8) : DrivesOnlyPerm perm 0#32 := by
  intro line h
  simp at h

/-- A code stays inside PERM when a line of PERM is set in it. -/
theorem DrivesOnlyPerm.set_line {perm : Vector (Fin 32) 8} {code : Word} (hc : DrivesOnlyPerm perm code) {l : Fin 32}
    (hl : l ∈ perm.toList) : DrivesOnlyPerm perm (code ||| (1#32 <<< l.val)) := by
  intro line h
  rw [BitVec.getLsbD_or, Bool.or_eq_true] at h
  rcases h with h | h
  · exact hc line h
  · have hline : line = l := by
      simp at h
      omega
    exact hline ▸ hl

/-- Every entry of the Waveform Table drives lines of PERM only (R120). -/
theorem drivesOnlyPerm_wt (perm : Vector (Fin 32) 8) (i : BitVec 8) : DrivesOnlyPerm perm (wt perm i) := by
  refine List.foldlRecOn (motive := DrivesOnlyPerm perm) _ _ (drivesOnlyPerm_zero perm) fun acc hacc j _ => ?_
  split
  · exact hacc.set_line (Vector.mem_toList_iff.2 (Vector.getElem_mem j.isLt))
  · exact hacc

/-- A TICK keeps OUT_CODE inside PERM: only an excitation tick writes it, a Waveform Table entry (R174, R127). -/
theorem State.OutputInv.tick {s t : State} {x : Sample} (hs : s.OutputInv) (h : execTick x s = .next t) :
    t.OutputInv := by
  obtain ⟨_, ⟨_, rfl⟩ | ⟨_, u, hu, rfl⟩⟩ := execTick_eq_next h
  · exact hs
  · obtain ⟨hparams, _, _, _, hout, _⟩ := s.completeOrRearm_view
    have hs1 : s.completeOrRearm.OutputInv := by
      rw [State.outputInv_iff, hparams, hout]
      exact hs
    rcases State.tickAction_eq_some hu with ⟨_, hpush⟩ | ⟨_, rfl⟩
    · obtain ⟨_, rfl⟩ := State.rbPush_eq_some hpush
      exact hs1
    · exact drivesOnlyPerm_wt _ _

/-- Every completing operation keeps OUT_CODE inside PERM (R35). -/
theorem State.OutputInv.exec {i : Instr} {s t : State} (hs : s.OutputInv) (h : exec i s = .next t) :
    t.OutputInv := by
  by_cases hreset : i = .reset
  · subst hreset
    cases h
    exact drivesOnlyPerm_zero _
  by_cases htick : ∃ x, i = .tick x
  · obtain ⟨x, rfl⟩ := htick
    exact hs.tick h
  obtain ⟨hparams, hout⟩ := exec_outCode_frame h hreset (not_exists.1 htick)
  rw [State.outputInv_iff, hparams, hout]
  exact hs

/-! ## The outcome of the last CMD write -/

/-- A configuration error names its cause (R146, R147). -/
theorem derive_err_ne_none {p : Params} {m : Mode} {freq dur : Word} {cause : CfgCause}
    (h : derive p m freq dur = .err cause) : cause ≠ .none := by
  simp only [derive] at h
  split_ifs at h <;> cases h <;> decide

/-- A BEGIN leaves an outcome with a cause exactly when it is CFG_ERR (R97, R205). -/
theorem State.beginSeq_outcomeInv (s : State) (m : Mode) : (s.beginSeq m).OutcomeInv := by
  rcases s.beginSeq_cases m with ⟨_, h⟩ | ⟨_, cause, hd, h⟩ | ⟨_, _, _, h⟩ | ⟨_, _, _, _, _, h⟩
  · simp [h, State.OutcomeInv]
  · simp [h, State.OutcomeInv, derive_err_ne_none hd]
  · simp [h, State.OutcomeInv]
  · simp [h, State.OutcomeInv]

/-- Every completing operation keeps CFG_CAUSE in step with RESULT (R97). -/
theorem State.OutcomeInv.exec {i : Instr} {s t : State} (hs : s.OutcomeInv) (h : exec i s = .next t) :
    t.OutcomeInv := by
  by_cases hreset : i = .reset
  · subst hreset
    cases h
    simp [State.OutcomeInv]
  by_cases hexc : i = .beginExc
  · subst hexc
    cases h
    exact s.beginSeq_outcomeInv .exc
  by_cases hacq : i = .beginAcq
  · subst hacq
    cases h
    exact s.beginSeq_outcomeInv .acq
  by_cases hillegal : ∃ d, i = .cmdIllegal d
  · obtain ⟨d, rfl⟩ := hillegal
    cases h
    simp [State.OutcomeInv]
  obtain ⟨hresult, hcause⟩ := exec_outcome_frame h hreset hexc hacq (not_exists.1 hillegal)
  rw [State.OutcomeInv, hresult, hcause]
  exact hs

/-- Settles O37: neither invariant looks at the response, the schedule or the draws, and every operation keeps both. -/
theorem stepKeepsOutputAndOutcome : Obligations.StepKeepsOutputAndOutcome := by
  intro s t h
  exact ⟨step_keeps (P := State.OutputInv) (fun _ _ _ _ hs => hs) (fun _ _ _ hs h => hs.exec h) h,
    step_keeps (P := State.OutcomeInv) (fun _ _ _ _ hs => hs) (fun _ _ _ hs h => hs.exec h) h⟩

end Sys2Proof.Machine

/-! PROOF. TRIG_LOAD is hidden: no operation reads it (R30, R183). -/

namespace Sys2Proof.Machine

/-- The state with another TRIG_LOAD. -/
abbrev State.withLoad (s : State) (c : Word) : State := { s with trigLoad := c }

/-- A BEGIN does not read TRIG_LOAD: it writes it or leaves it. -/
theorem State.beginSeq_withLoad (s : State) (m : Mode) (c : Word) :
    ∃ d, (s.withLoad c).beginSeq m = (s.beginSeq m).withLoad d := by
  cases hc : s.completed with
  | false => exact ⟨c, by simp [State.beginSeq, hc, State.setOutcome]⟩
  | true =>
    cases hd : derive s.params m s.argFreq s.argDur with
    | err cause => exact ⟨c, by simp [State.beginSeq, hc, hd, State.setOutcome]⟩
    | ok cpt tt =>
      by_cases ht : tt = 0#32
      · exact ⟨c, by simp [State.beginSeq, hc, hd, State.commit, State.setOutcome, ht]⟩
      · exact ⟨cpt, by simp [State.beginSeq, hc, hd, State.commit, State.setOutcome, State.arm, ht]⟩

/-- TICK step 1 does not read TRIG_LOAD: it writes CPT to it or leaves it. -/
theorem State.completeOrRearm_withLoad (s : State) (c : Word) :
    ∃ d, (s.withLoad c).completeOrRearm = s.completeOrRearm.withLoad d := by
  by_cases hlast : s.tickCount.toNat + 1 ≥ s.tt.toNat
  · exact ⟨c, by simp only [State.completeOrRearm, if_pos hlast]⟩
  · exact ⟨s.cpt, by simp only [State.completeOrRearm, if_neg hlast, State.arm]⟩

theorem State.tickAction_of_acq {s : State} (x : Sample) (hm : s.mode = .acq) : s.tickAction x = s.rbPush x := by
  simp only [State.tickAction, hm, State.acqAction]

theorem State.tickAction_of_exc {s : State} (x : Sample) (hm : s.mode = .exc) :
    s.tickAction x = some s.excAction := by
  simp only [State.tickAction, hm]

/-- TICK step 2 does not touch TRIG_LOAD. -/
theorem State.tickAction_withLoad {s u : State} {x : Sample} (c : Word) (h : s.tickAction x = some u) :
    (s.withLoad c).tickAction x = some (u.withLoad c) := by
  rcases State.tickAction_eq_some h with ⟨hm, hpush⟩ | ⟨hm, rfl⟩
  · obtain ⟨hlt, rfl⟩ := State.rbPush_eq_some hpush
    exact (State.tickAction_of_acq (s := s.withLoad c) x hm).trans (State.rbPush_of_lt (s := s.withLoad c) x hlt)
  · exact State.tickAction_of_exc (s := s.withLoad c) x hm

/-- TICK does not read TRIG_LOAD. -/
theorem execTick_withLoad {s t : State} {x : Sample} (c : Word) (h : execTick x s = .next t) :
    ∃ d, execTick x (s.withLoad c) = .next (t.withLoad d) := by
  obtain ⟨hpending, ⟨hfits, rfl⟩ | ⟨hfits, u, hu, rfl⟩⟩ := execTick_eq_next h
  · exact ⟨c, by simp [execTick, hpending, hfits, State.raise]⟩
  · obtain ⟨d, hd⟩ := s.completeOrRearm_withLoad c
    have hact : (s.withLoad c).completeOrRearm.tickAction x = some (u.withLoad d) :=
      hd ▸ State.tickAction_withLoad d hu
    refine ⟨d, ?_⟩
    simp only [execTick, hpending, hfits, hact, if_true]
    rfl

/-- FIRE does not read TRIG_LOAD. -/
theorem execFire_withLoad {s t : State} (c : Word) (h : execFire s = .next t) :
    execFire (s.withLoad c) = .next (t.withLoad c) := by
  obtain ⟨harmed, rfl⟩ := execFire_eq_next h
  simp [execFire, harmed, State.expire, State.respond]

/-- The pop does not read TRIG_LOAD. -/
theorem execRdRbData_withLoad {s t : State} (c : Word) (h : execRdRbData s = .next t) :
    execRdRbData (s.withLoad c) = .next (t.withLoad c) := by
  rcases execRdRbData_eq_next h with ⟨hempty, rfl⟩ | ⟨hne, hlt, rfl⟩
  · simp [execRdRbData, hempty, State.respond]
  · simp [execRdRbData, hne, hlt, State.memRead, State.respond, State.slot]

/-- Settles O46: TRIG_LOAD stays as given, but for a BEGIN or TICK that arms (CPT) and RESET (0). -/
theorem triggerLoadIsNotObservable : Obligations.TriggerLoadIsNotObservable := by
  intro i s t c h
  cases i
  case beginExc =>
    cases h
    obtain ⟨d, hd⟩ := s.beginSeq_withLoad .exc c
    exact ⟨d, by simp only [exec, execBeginExc, hd]; rfl⟩
  case beginAcq =>
    cases h
    obtain ⟨d, hd⟩ := s.beginSeq_withLoad .acq c
    exact ⟨d, by simp only [exec, execBeginAcq, hd]; rfl⟩
  case rdRbData => exact ⟨c, execRdRbData_withLoad c h⟩
  case fire => exact ⟨c, execFire_withLoad c h⟩
  case tick x => exact execTick_withLoad c h
  case reset =>
    cases h
    exact ⟨0#32, rfl⟩
  all_goals
    cases h
    exact ⟨c, rfl⟩

end Sys2Proof.Machine

/-! PROOF. The bus and the one memory: how a label reaches the block, which accesses are bus errors, when a step
can fault, and the byte lanes of a bus word (20_memory.md). -/

namespace Sys2Proof.Machine

/-! ## From a label to a transition -/

/-- A step takes the first scheduled label (R69, log 4). -/
theorem step_of_schedule_cons {s : State} {l : Label} {rest : List Label} (hs : s.schedule = l :: rest) :
    step s = s.takeLabel l rest := by
  simp only [step, hs]

/-- With nothing scheduled a step is the block's own transition (log 5). -/
theorem step_of_schedule_nil {s : State} (hs : s.schedule = []) : step s = s.ownTransition := by
  simp only [step, hs]

theorem State.takeLabel_of_instr {s : State} {l : Label} {i : Instr} (rest : List Label)
    (hl : decodeLabel s.params.itcBase l = .instr i) : s.takeLabel l rest = exec i { s with schedule := rest } := by
  simp only [State.takeLabel, hl]

theorem State.takeLabel_of_outside {s : State} {l : Label} (rest : List Label)
    (hl : decodeLabel s.params.itcBase l = .outside) :
    s.takeLabel l rest = .next { s with schedule := rest, response := .none } := by
  simp only [State.takeLabel, hl, State.respond]

/-- Settles O6: the decode selects the branch of `takeLabel` that runs the operation. -/
theorem stepRunsTheDecodedInstr : Obligations.StepRunsTheDecodedInstr :=
  fun _ _ rest _ hs hl => (step_of_schedule_cons hs).trans (State.takeLabel_of_instr rest hl)

/-! ## The register window (R61) -/

theorem decodeLabel_access_inside {base a : Nat} (dir : BitVec 1) (size : BitVec 2) (data : Word)
    (ha : base ≤ a ∧ a < base + Config.windowBytes) :
    decodeLabel base (.access a dir size data) =
      .instr (decodeTxn (Txn.make dir size (BitVec.ofNat 6 (a - base)) data)) := by
  simp only [decodeLabel, busTxn, if_pos ha]

theorem decodeLabel_access_outside {base a : Nat} (dir : BitVec 1) (size : BitVec 2) (data : Word)
    (ha : ¬ (base ≤ a ∧ a < base + Config.windowBytes)) :
    decodeLabel base (.access a dir size data) = .outside := by
  simp only [decodeLabel, busTxn, if_neg ha]

/-- Settles O8: the window's 64 bytes are exactly the addresses that `busTxn` turns into a transaction word. -/
theorem windowDecodesBusAddresses : Obligations.WindowDecodesBusAddresses := by
  intro s rest a dir size data hs
  refine ⟨fun ha => ?_, fun ha => ?_⟩
  · exact stepRunsTheDecodedInstr s _ rest _ hs (decodeLabel_access_inside dir size data ha)
  · exact (step_of_schedule_cons hs).trans
      (State.takeLabel_of_outside rest (decodeLabel_access_outside dir size data ha))

/-! ## Legal and illegal accesses (R62) -/

/-- The byte offset is its word slot followed by its two low bits. -/
theorem offSlot_append_offLow (off : BitVec 6) : offSlot off ++ offLow off = off := by
  revert off
  decide

/-- A word that is not 32 bits wide is a bus error with its own triple (R285). -/
theorem exec_decodeTxn_of_size_ne {w : Txn} (s : State) (hsize : w.size ≠ size32) :
    exec (decodeTxn w) s = busError w.dir w.size w.off s := by
  have hcases : w.size = 0b00#2 ∨ w.size = 0b01#2 ∨ w.size = 0b11#2 := by
    revert hsize
    generalize w.size = sz
    revert sz
    decide
  rcases hcases with h | h | h
  · simp [decodeTxn, h, exec, execBuserrSize8]
  · simp [decodeTxn, h, exec, execBuserrSize16]
  · simp [decodeTxn, h, exec, execBuserrSizeRsvd]

/-- A 32-bit word off a word boundary is a bus error with its own triple (R285): the slot and the low bits that the
decode takes apart give OFF back. -/
theorem exec_decodeTxn_of_misaligned {w : Txn} (s : State) (hsize : w.size = size32) (hlow : offLow w.off ≠ 0#2) :
    exec (decodeTxn w) s = busError w.dir w.size w.off s := by
  have hcases : offLow w.off = 1#2 ∨ offLow w.off = 2#2 ∨ offLow w.off = 3#2 := by
    revert hlow
    generalize offLow w.off = low
    revert low
    decide
  have hoff := offSlot_append_offLow w.off
  rcases hcases with h | h | h
  · rw [h] at hoff
    simp [decodeTxn, hsize, size32, h, exec, execBuserrMisaligned1, hoff]
  · rw [h] at hoff
    simp [decodeTxn, hsize, size32, h, exec, execBuserrMisaligned2, hoff]
  · rw [h] at hoff
    simp [decodeTxn, hsize, size32, h, exec, execBuserrMisaligned3, hoff]

/-- A legal word decodes by R93's table: by DIR, then by its word slot. -/
theorem decodeTxn_of_legal {w : Txn} (hsize : w.size = size32) (hlow : offLow w.off = 0#2) :
    decodeTxn w = if w.dir = 1#1 then decodeWrite (offSlot w.off) w.data else decodeRead (offSlot w.off) := by
  simp [decodeTxn, hsize, size32, hlow]

/-- A CMD write is acknowledged and records no fault (R200). -/
theorem exec_decodeCommand (data : Word) (s : State) :
    ∃ u : State, exec (decodeCommand data) s = .next (u.respond .ack) ∧ u.faults = s.faults := by
  have hbegin (m : Mode) : (s.beginSeq m).faults = s.faults := by rw [s.beginSeq_frame m]
  unfold decodeCommand
  split
  · exact ⟨s.beginSeq .exc, rfl, hbegin .exc⟩
  · split
    · exact ⟨s.beginSeq .acq, rfl, hbegin .acq⟩
    · exact ⟨s.setOutcome .illegalCmd .none, rfl, rfl⟩

/-- A legal write is acknowledged and records no fault, whichever slot it names (R260). -/
theorem exec_decodeWrite (slot : BitVec 4) (data : Word) (s : State) :
    ∃ u : State, exec (decodeWrite slot data) s = .next (u.respond .ack) ∧ u.faults = s.faults := by
  unfold decodeWrite
  split
  · exact exec_decodeCommand data s
  all_goals exact ⟨_, rfl, rfl⟩

/-- A legal read is a plain register read or the pop. -/
theorem exec_decodeRead (slot : BitVec 4) (s : State) :
    (∃ r, exec (decodeRead slot) s = readReg r s) ∨ exec (decodeRead slot) s = execRdRbData s := by
  unfold decodeRead
  split
  case h_10 => exact .inr rfl
  all_goals exact .inl ⟨_, rfl⟩

/-- A legal read that completes answers with data and records no fault (R260). -/
theorem exec_decodeRead_eq_next {slot : BitVec 4} {s t : State} (h : exec (decodeRead slot) s = .next t) :
    ∃ v, t.response = .data v ∧ t.faults = s.faults := by
  rcases exec_decodeRead slot s with ⟨r, hr⟩ | hpop
  · cases hr.symm.trans h
    exact ⟨_, rfl, rfl⟩
  · rcases execRdRbData_eq_next (hpop.symm.trans h) with ⟨_, rfl⟩ | ⟨_, _, rfl⟩
    · exact ⟨_, rfl, rfl⟩
    · exact ⟨_, rfl, rfl⟩

/-- Settles O15: the size and alignment checks come first in the decode, and what is left is a write, which is
acknowledged, or a read, which answers with data. -/
theorem illegalAccessIsABusError : Obligations.IllegalAccessIsABusError := by
  intro s w
  refine ⟨fun hillegal => ?_, fun hsize hlow t h => ?_⟩
  · by_cases hsize : w.size = size32
    · exact exec_decodeTxn_of_misaligned s hsize (hillegal.resolve_left (not_not.2 hsize))
    · exact exec_decodeTxn_of_size_ne s hsize
  · rw [decodeTxn_of_legal hsize hlow] at h
    split at h
    · obtain ⟨u, hu, hfaults⟩ := exec_decodeWrite (offSlot w.off) w.data s
      cases hu.symm.trans h
      exact ⟨hfaults, fun f hf => nomatch hf⟩
    · obtain ⟨v, hv, hfaults⟩ := exec_decodeRead_eq_next h
      exact ⟨hfaults, fun f hf => nomatch hv.symm.trans hf⟩

/-! ## When an operation faults (R75, log 16) -/

/-- The pop faults only on an RB_RIDX that is no slot. -/
theorem execRdRbData_eq_fault {s : State} {r : Fault} (h : execRdRbData s = .fault r) :
    s.params.rbN ≤ s.rbRidx := by
  by_contra hlt
  simp only [execRdRbData, State.memRead, if_pos (not_le.1 hlt)] at h
  split at h <;> cases h

/-- The action of a TICK fails only on an RB_WIDX that is no slot. -/
theorem State.tickAction_eq_none {s : State} {x : Sample} (h : s.tickAction x = none) :
    s.params.rbN ≤ s.rbWidx := by
  by_contra hlt
  cases hm : s.mode with
  | acq =>
    rw [State.tickAction_of_acq x hm, State.rbPush_of_lt x (not_le.1 hlt)] at h
    cases h
  | exc =>
    rw [State.tickAction_of_exc x hm] at h
    cases h

/-- TICK faults only on an RB_WIDX that is no slot. -/
theorem execTick_eq_fault {x : Sample} {s : State} {r : Fault} (h : execTick x s = .fault r) :
    s.params.rbN ≤ s.rbWidx := by
  obtain ⟨hparams, _, hwidx, _⟩ := s.completeOrRearm_view
  unfold execTick at h
  split at h
  · split at h
    · split at h
      · cases h
      · next hnone => exact hparams ▸ hwidx ▸ State.tickAction_eq_none hnone
    · cases h
  · cases h

/-- Only the pop and TICK can fault, each on its own index outside RB_MEM. -/
theorem exec_eq_fault {i : Instr} {s : State} {r : Fault} (h : exec i s = .fault r) :
    (i = .rdRbData ∧ s.params.rbN ≤ s.rbRidx) ∨ ((∃ x, i = .tick x) ∧ s.params.rbN ≤ s.rbWidx) := by
  cases i
  case rdRbData => exact .inl ⟨rfl, execRdRbData_eq_fault h⟩
  case tick x => exact .inr ⟨⟨x, rfl⟩, execTick_eq_fault h⟩
  case fire =>
    simp only [exec, execFire] at h
    split at h <;> cases h
  all_goals cases h

/-- Under the ring invariant both indices are slots, so no operation faults. -/
theorem exec_ne_fault {s : State} (hs : s.RingInv) (i : Instr) (r : Fault) : exec i s ≠ .fault r := by
  intro h
  rcases exec_eq_fault h with ⟨_, hridx⟩ | ⟨_, hwidx⟩
  · exact hridx.not_gt hs.ridx_lt
  · exact hwidx.not_gt hs.widx_lt

/-- A scheduled label never faults: its operation runs on the same ring buffer. -/
theorem State.takeLabel_ne_fault {s : State} (hs : s.RingInv) (l : Label) (rest : List Label) (r : Fault) :
    s.takeLabel l rest ≠ .fault r := by
  have hs1 : State.RingInv { s with schedule := rest } := hs.congr rfl rfl rfl rfl
  unfold State.takeLabel
  split
  · exact exec_ne_fault hs1 _ r
  · exact fun h => nomatch h
  · exact fun h => nomatch h

theorem State.RingInv.drawInput {s : State} (hs : s.RingInv) : s.drawInput.2.RingInv := by
  unfold State.drawInput
  split
  · exact hs.congr rfl rfl rfl rfl
  · exact hs

/-- The block's own transition never faults: drawing an input leaves the ring buffer as it is. -/
theorem State.ownTransition_ne_fault {s : State} (hs : s.RingInv) (r : Fault) :
    s.ownTransition ≠ .fault r := by
  unfold State.ownTransition
  split
  · exact exec_ne_fault hs.drawInput _ r
  · split
    · exact exec_ne_fault hs _ r
    · exact fun h => nomatch h

/-- Settles O40: the two indices are slots, and only an index that is no slot faults. -/
theorem noStepFaultsUnderTheRingInvariant : Obligations.NoStepFaultsUnderTheRingInvariant := by
  intro s r hs
  cases hsched : s.schedule with
  | cons l rest => exact step_of_schedule_cons hsched ▸ State.takeLabel_ne_fault hs l rest r
  | nil => exact step_of_schedule_nil hsched ▸ State.ownTransition_ne_fault hs r

/-! ## Byte lanes (R63) -/

/-- Bit `b` of lane `k` is bit 8k + b of the word. -/
theorem byteLane_getLsbD (v : Word) (k : Fin 4) {b : Nat} (hb : b < 8) :
    (byteLane v k).getLsbD b = v.getLsbD (8 * k.val + b) := by
  simp [byteLane, hb]

/-- Lane after lane from the top, each joins the bits above it into one longer piece of the word. -/
theorem wordOfLanes_byteLane (v : Word) :
    wordOfLanes (byteLane v 0) (byteLane v 1) (byteLane v 2) (byteLane v 3) = v := by
  have h32 : v.extractLsb' 24 8 ++ v.extractLsb' 16 8 = v.extractLsb' 16 16 :=
    BitVec.extractLsb'_append_extractLsb'_eq_extractLsb' rfl
  have h321 : v.extractLsb' 16 16 ++ v.extractLsb' 8 8 = v.extractLsb' 8 24 :=
    BitVec.extractLsb'_append_extractLsb'_eq_extractLsb' rfl
  have h3210 : v.extractLsb' 8 24 ++ v.extractLsb' 0 8 = v.extractLsb' 0 32 :=
    BitVec.extractLsb'_append_extractLsb'_eq_extractLsb' rfl
  calc wordOfLanes (byteLane v 0) (byteLane v 1) (byteLane v 2) (byteLane v 3)
      = v.extractLsb' 24 8 ++ v.extractLsb' 16 8 ++ v.extractLsb' 8 8 ++ v.extractLsb' 0 8 := rfl
    _ = v.extractLsb' 0 32 := by rw [h32, h321, h3210]
    _ = v := BitVec.extractLsb'_eq_self

/-- Settles O54. -/
theorem busWordIsLittleEndian : Obligations.BusWordIsLittleEndian :=
  fun v => ⟨wordOfLanes_byteLane v, fun k _ hb => byteLane_getLsbD v k hb⟩

end Sys2Proof.Machine

/-! PROOF. Encode and decode are inverse to each other, but for the DATA of a legal read (R90-R93, R98, R99). -/

namespace Sys2Proof.Laws

open Sys2Proof.Machine

/-! ## What the decode answers for each shape of a word (R93) -/

theorem decodeTxn_of_size8 {w : Txn} (hsize : w.size = 0b00#2) :
    decodeTxn w = .buserrSize8 w.dir w.off w.data := if_pos hsize

theorem decodeTxn_of_size16 {w : Txn} (hsize : w.size = 0b01#2) :
    decodeTxn w = .buserrSize16 w.dir w.off w.data := by
  simp [decodeTxn, hsize]

theorem decodeTxn_of_sizeRsvd {w : Txn} (hsize : w.size = 0b11#2) :
    decodeTxn w = .buserrSizeRsvd w.dir w.off w.data := by
  simp [decodeTxn, hsize]

theorem decodeTxn_of_misaligned1 {w : Txn} (hsize : w.size = size32) (hlow : offLow w.off = 1#2) :
    decodeTxn w = .buserrMisaligned1 w.dir (offSlot w.off) w.data := by
  simp [decodeTxn, hsize, size32, hlow]

theorem decodeTxn_of_misaligned2 {w : Txn} (hsize : w.size = size32) (hlow : offLow w.off = 2#2) :
    decodeTxn w = .buserrMisaligned2 w.dir (offSlot w.off) w.data := by
  simp [decodeTxn, hsize, size32, hlow]

theorem decodeTxn_of_misaligned3 {w : Txn} (hsize : w.size = size32) (hlow : offLow w.off = 3#2) :
    decodeTxn w = .buserrMisaligned3 w.dir (offSlot w.off) w.data := by
  simp [decodeTxn, hsize, size32, hlow]

theorem decodeTxn_of_write {w : Txn} (hsize : w.size = size32) (hlow : offLow w.off = 0#2) (hdir : w.dir = 1#1) :
    decodeTxn w = decodeWrite (offSlot w.off) w.data :=
  (decodeTxn_of_legal hsize hlow).trans (if_pos hdir)

theorem decodeTxn_of_read {w : Txn} (hsize : w.size = size32) (hlow : offLow w.off = 0#2) (hdir : w.dir = 0#1) :
    decodeTxn w = decodeRead (offSlot w.off) :=
  (decodeTxn_of_legal hsize hlow).trans (if_neg (by rw [hdir]; decide))

/-! ## Decode after encode -/

/-- The label of an aligned 32-bit read decodes by the read column of R93's table. -/
theorem decodeLabel_encodeRead (base : Nat) {off : BitVec 6} (hlow : offLow off = 0#2) :
    decodeLabel base (encodeRead off) = .instr (decodeRead (offSlot off)) := by
  have hdecode := decodeTxn_of_read (w := Txn.make 0#1 size32 off 0#32) (by simp) (by simpa using hlow) (by simp)
  rw [off_make] at hdecode
  exact congrArg Decoded.instr hdecode

/-- The label of an aligned 32-bit write decodes by the write column of R93's table. -/
theorem decodeLabel_encodeWrite (base : Nat) {off : BitVec 6} (data : Word) (hlow : offLow off = 0#2) :
    decodeLabel base (encodeWrite off data) = .instr (decodeWrite (offSlot off) data) := by
  have hdecode := decodeTxn_of_write (w := Txn.make 1#1 size32 off data) (by simp) (by simpa using hlow) (by simp)
  rw [off_make, data_make] at hdecode
  exact congrArg Decoded.instr hdecode

theorem offLow_reserved (k : BitVec 2) : offLow (0b11#2 ++ k ++ 0b00#2) = 0#2 := offLow_append (0b11#2 ++ k) 0b00#2

theorem offSlot_reserved (k : BitVec 2) : offSlot (0b11#2 ++ k ++ 0b00#2) = 0b11#2 ++ k :=
  offSlot_append (0b11#2 ++ k) 0b00#2

theorem decodeRead_reserved (k : BitVec 2) : decodeRead (0b11#2 ++ k) = .rdRsvd k := by
  revert k
  decide

/-- The slots 12 to 15 are written by WR_RSVD (R93, R284). -/
theorem decodeWrite_of_twelve_le {slot : BitVec 4} (data : Word) (h : 12 ≤ slot.toNat) :
    decodeWrite slot data = .wrRsvd (slot.extractLsb' 0 2) data := by
  unfold decodeWrite
  split
  case h_13 => rfl
  all_goals omega

theorem reserved_toNat (k : BitVec 2) : 12 ≤ (0b11#2 ++ k).toNat := by
  revert k
  decide

theorem reserved_extractLsb' (k : BitVec 2) : (0b11#2 ++ k).extractLsb' 0 2 = k := by
  revert k
  decide

theorem decodeWrite_reserved (k : BitVec 2) (data : Word) : decodeWrite (0b11#2 ++ k) data = .wrRsvd k data := by
  rw [decodeWrite_of_twelve_le data (reserved_toNat k), reserved_extractLsb']

/-- A CMD write of neither 1 nor 2 is CMD_ILLEGAL (R98). -/
theorem decodeCommand_of_illegal {data : Word} (h : (Instr.cmdIllegal data).wf = true) :
    decodeCommand data = .cmdIllegal data := by
  simp only [Instr.wf, Bool.and_eq_true, bne_iff_ne] at h
  obtain ⟨hexc, hacq⟩ := h
  rw [decodeCommand, if_neg hexc, if_neg hacq]

/-- Settles O1: the shape of the word an operation is written as (its size, its alignment, its direction) selects the
branch of the decode, and the slot selects the row of R93's table. -/
theorem decodeOfEncodeIsTheInstr : Obligations.DecodeOfEncodeIsTheInstr := by
  intro base i hwf
  cases i with
  | buserrSize8 dir off data =>
    exact congrArg Decoded.instr ((decodeTxn_of_size8 (by simp)).trans (by simp))
  | buserrSize16 dir off data =>
    exact congrArg Decoded.instr ((decodeTxn_of_size16 (by simp)).trans (by simp))
  | buserrSizeRsvd dir off data =>
    exact congrArg Decoded.instr ((decodeTxn_of_sizeRsvd (by simp)).trans (by simp))
  | buserrMisaligned1 dir slot data =>
    exact congrArg Decoded.instr ((decodeTxn_of_misaligned1 (by simp) (by simp)).trans (by simp))
  | buserrMisaligned2 dir slot data =>
    exact congrArg Decoded.instr ((decodeTxn_of_misaligned2 (by simp) (by simp)).trans (by simp))
  | buserrMisaligned3 dir slot data =>
    exact congrArg Decoded.instr ((decodeTxn_of_misaligned3 (by simp) (by simp)).trans (by simp))
  | beginExc | beginAcq => exact decodeLabel_encodeWrite base _ rfl
  | cmdIllegal data =>
    exact (decodeLabel_encodeWrite base data rfl).trans (congrArg Decoded.instr (decodeCommand_of_illegal hwf))
  | rdCmd | rdArgFreq | rdArgDur | rdStatus | rdCpt | rdTt | rdTickCount | rdRbWidx | rdRbRidx | rdRbData
  | rdOvrCount | rdOutCode => exact decodeLabel_encodeRead base rfl
  | wrArgFreq data | wrArgDur data | wrStatus data | wrCpt data | wrTt data | wrTickCount data | wrRbWidx data
  | wrRbRidx data | wrRbData data | wrOvrCount data | wrOutCode data => exact decodeLabel_encodeWrite base data rfl
  | rdRsvd k =>
    rw [encode, decodeLabel_encodeRead base (offLow_reserved k), offSlot_reserved, decodeRead_reserved]
  | wrRsvd k data =>
    rw [encode, decodeLabel_encodeWrite base data (offLow_reserved k), offSlot_reserved, decodeWrite_reserved]
  | reset | fire | tick _ => rfl

/-! ## Encode after decode -/

theorem decodeCommand_wf (data : Word) : (decodeCommand data).wf = true := by
  unfold decodeCommand
  split
  · rfl
  · next hexc =>
    split
    · rfl
    · next hacq => simp [Instr.wf, hexc, hacq]

theorem decodeWrite_wf (slot : BitVec 4) (data : Word) : (decodeWrite slot data).wf = true := by
  unfold decodeWrite
  split
  · exact decodeCommand_wf data
  all_goals rfl

theorem decodeRead_wf (slot : BitVec 4) : (decodeRead slot).wf = true := by
  revert slot
  decide

theorem encode_decodeCommand (data : Word) : encode (decodeCommand data) = encodeWrite 0x00#6 data := by
  unfold decodeCommand
  split
  · next hexc => rw [hexc]; rfl
  · split
    · next hacq => rw [hacq]; rfl
    · rfl

/-- A slot is CMD's, that of a named register, or reserved (R91). -/
theorem slot_cases (slot : BitVec 4) :
    slot = 0#4 ∨ slot ∈ [1#4, 2#4, 3#4, 4#4, 5#4, 6#4, 7#4, 8#4, 9#4, 10#4, 11#4] ∨
      ∃ k : BitVec 2, slot = 0b11#2 ++ k := by
  revert slot
  decide

theorem encode_decodeWrite (slot : BitVec 4) (data : Word) :
    encode (decodeWrite slot data) = encodeWrite (slot ++ 0#2) data := by
  rcases slot_cases slot with rfl | hnamed | ⟨k, rfl⟩
  · exact encode_decodeCommand data
  · simp only [List.mem_cons, List.not_mem_nil, or_false] at hnamed
    rcases hnamed with rfl | rfl | rfl | rfl | rfl | rfl | rfl | rfl | rfl | rfl | rfl <;> rfl
  · rw [decodeWrite_reserved]
    rfl

theorem encode_decodeRead (slot : BitVec 4) : encode (decodeRead slot) = encodeRead (slot ++ 0#2) := by
  revert slot
  decide

/-- The four size codes, in the order of R93's checks. -/
theorem size_cases (size : BitVec 2) : size = 0b00#2 ∨ size = 0b01#2 ∨ size = 0b11#2 ∨ size = size32 := by
  revert size
  decide

/-- The four alignments, in the order of R93's checks. -/
theorem offLow_cases (off : BitVec 6) :
    offLow off = 1#2 ∨ offLow off = 2#2 ∨ offLow off = 3#2 ∨ offLow off = 0#2 := by
  revert off
  decide

/-- The offset of an access with known low bits, from its slot. -/
theorem offSlot_append_of_offLow {off : BitVec 6} {low : BitVec 2} (h : offLow off = low) : offSlot off ++ low = off :=
  h ▸ offSlot_append_offLow off

/-- A word rebuilt from fields that are its own is the word (R90). -/
theorem make_eq_self {w : Txn} {dir : BitVec 1} {size : BitVec 2} {off : BitVec 6}
    (hdir : w.dir = dir) (hsize : w.size = size) (hoff : off = w.off) : Txn.make dir size off w.data = w := by
  rw [← hdir, ← hsize, hoff, make_fields]

/-- Every operation that a word decodes to is well-formed. -/
theorem decodeTxn_wf (w : Txn) : (decodeTxn w).wf = true := by
  rcases size_cases w.size with hsize | hsize | hsize | hsize
  · rw [decodeTxn_of_size8 hsize]; rfl
  · rw [decodeTxn_of_size16 hsize]; rfl
  · rw [decodeTxn_of_sizeRsvd hsize]; rfl
  rcases offLow_cases w.off with hlow | hlow | hlow | hlow
  · rw [decodeTxn_of_misaligned1 hsize hlow]; rfl
  · rw [decodeTxn_of_misaligned2 hsize hlow]; rfl
  · rw [decodeTxn_of_misaligned3 hsize hlow]; rfl
  rw [decodeTxn_of_legal hsize hlow]
  split
  · exact decodeWrite_wf _ _
  · exact decodeRead_wf _

/-- A legal read comes back with DATA 0, which the encoder writes (R90, log 23). -/
theorem encode_decodeTxn_of_read {w : Txn} (hsize : w.size = size32) (hlow : offLow w.off = 0#2) (hdir : w.dir = 0#1) :
    encode (decodeTxn w) = .txn (Txn.make 0#1 size32 w.off 0#32) := by
  rw [decodeTxn_of_read hsize hlow hdir, encode_decodeRead, offSlot_append_of_offLow hlow]
  rfl

/-- Every word but a legal read comes back as it was: its operation records all four fields. -/
theorem encode_decodeTxn_of_not_read {w : Txn} (hread : ¬ (w.size = size32 ∧ offLow w.off = 0#2 ∧ w.dir = 0#1)) :
    encode (decodeTxn w) = .txn w := by
  rcases size_cases w.size with hsize | hsize | hsize | hsize
  · rw [decodeTxn_of_size8 hsize]
    exact congrArg Label.txn (make_eq_self rfl hsize rfl)
  · rw [decodeTxn_of_size16 hsize]
    exact congrArg Label.txn (make_eq_self rfl hsize rfl)
  · rw [decodeTxn_of_sizeRsvd hsize]
    exact congrArg Label.txn (make_eq_self rfl hsize rfl)
  rcases offLow_cases w.off with hlow | hlow | hlow | hlow
  · rw [decodeTxn_of_misaligned1 hsize hlow]
    exact congrArg Label.txn (make_eq_self rfl hsize (offSlot_append_of_offLow hlow))
  · rw [decodeTxn_of_misaligned2 hsize hlow]
    exact congrArg Label.txn (make_eq_self rfl hsize (offSlot_append_of_offLow hlow))
  · rw [decodeTxn_of_misaligned3 hsize hlow]
    exact congrArg Label.txn (make_eq_self rfl hsize (offSlot_append_of_offLow hlow))
  have hdir : w.dir = 1#1 := (BitVec.eq_zero_or_eq_one w.dir).resolve_left fun h0 => hread ⟨hsize, hlow, h0⟩
  rw [decodeTxn_of_write hsize hlow hdir, encode_decodeWrite]
  exact congrArg Label.txn (make_eq_self hdir hsize (offSlot_append_of_offLow hlow))

/-- Settles O3: the decode drops DATA for a legal read only. -/
theorem encodeOfDecodeRestoresTheWord : Obligations.EncodeOfDecodeRestoresTheWord := by
  intro w
  refine ⟨decodeTxn_wf w, ?_⟩
  split
  · next hread =>
    obtain ⟨hsize, hlow, hdir⟩ := hread
    exact encode_decodeTxn_of_read hsize hlow hdir
  · next hread => exact encode_decodeTxn_of_not_read hread

end Sys2Proof.Laws

/-! PROOF. The opcode table's first match is the decoder's answer (R93, R98): a word lies in the row of the operation
it decodes to, and no row listed before that one claims the word. -/

namespace Sys2Proof.Laws

/-! ## The row of the decoded operation covers the word -/

/-- Every operation is written as a label of its own row. -/
theorem tableRow : ∀ i : Instr, TableRow.Statement i
  | .buserrSize8 dir off data => TableRow.buserrSize8 dir off data
  | .buserrSize16 dir off data => TableRow.buserrSize16 dir off data
  | .buserrSizeRsvd dir off data => TableRow.buserrSizeRsvd dir off data
  | .buserrMisaligned1 dir slot data => TableRow.buserrMisaligned1 dir slot data
  | .buserrMisaligned2 dir slot data => TableRow.buserrMisaligned2 dir slot data
  | .buserrMisaligned3 dir slot data => TableRow.buserrMisaligned3 dir slot data
  | .beginExc => TableRow.beginExc
  | .beginAcq => TableRow.beginAcq
  | .cmdIllegal data => TableRow.cmdIllegal data
  | .rdCmd => TableRow.rdCmd
  | .rdArgFreq => TableRow.rdArgFreq
  | .rdArgDur => TableRow.rdArgDur
  | .rdStatus => TableRow.rdStatus
  | .rdCpt => TableRow.rdCpt
  | .rdTt => TableRow.rdTt
  | .rdTickCount => TableRow.rdTickCount
  | .rdRbWidx => TableRow.rdRbWidx
  | .rdRbRidx => TableRow.rdRbRidx
  | .rdRbData => TableRow.rdRbData
  | .rdOvrCount => TableRow.rdOvrCount
  | .rdOutCode => TableRow.rdOutCode
  | .wrArgFreq data => TableRow.wrArgFreq data
  | .wrArgDur data => TableRow.wrArgDur data
  | .wrStatus data => TableRow.wrStatus data
  | .wrCpt data => TableRow.wrCpt data
  | .wrTt data => TableRow.wrTt data
  | .wrTickCount data => TableRow.wrTickCount data
  | .wrRbWidx data => TableRow.wrRbWidx data
  | .wrRbRidx data => TableRow.wrRbRidx data
  | .wrRbData data => TableRow.wrRbData data
  | .wrOvrCount data => TableRow.wrOvrCount data
  | .wrOutCode data => TableRow.wrOutCode data
  | .rdRsvd k => TableRow.rdRsvd k
  | .wrRsvd k data => TableRow.wrRsvd k data
  | .reset => TableRow.reset
  | .fire => TableRow.fire
  | .tick x => TableRow.tick x

/-- The word an operation is written as lies in the operation's row. -/
theorem exists_row_of_encode {i : Instr} {w : Txn} (h : encode i = .txn w) :
    ∃ r ∈ txnTable, r.mnemonic = i.mnemonic ∧ r.covers w = true := by
  have hrow := tableRow i
  unfold TableRow.Statement at hrow
  rw [h] at hrow
  exact hrow

/-- Only rows of writes look at DATA (R90, R98). -/
theorem mask_data_of_row : ∀ r ∈ txnTable, r.mask.data = 0#32 ∨ (r.mask.dir = 1#1 ∧ r.pattern.dir = 1#1) := by
  decide

/-- A row that covers a read with DATA 0 covers it with any DATA. -/
theorem covers_read_of_covers {r : TxnRow} (hr : r ∈ txnTable) {size : BitVec 2} {off : BitVec 6} (data : Word)
    (h : r.covers (Txn.make 0#1 size off 0#32) = true) : r.covers (Txn.make 0#1 size off data) = true := by
  rw [covers_iff] at h ⊢
  simp only [dir_make, size_make, off_make, data_make, Bool.and_eq_true, beq_iff_eq] at h ⊢
  obtain ⟨⟨⟨hdir, hsize⟩, hoff⟩, hdata⟩ := h
  refine ⟨⟨⟨hdir, hsize⟩, hoff⟩, ?_⟩
  rcases mask_data_of_row r hr with hmask | ⟨hmask, hpattern⟩
  · rw [hmask] at hdata ⊢
    simpa using hdata
  · rw [hmask, hpattern] at hdir
    exact absurd hdir (by decide)

/-- The row of the operation that a word decodes to covers the word. -/
theorem exists_row_of_decodeTxn (w : Txn) :
    ∃ r ∈ txnTable, r.mnemonic = (decodeTxn w).mnemonic ∧ r.covers w = true := by
  by_cases hread : w.size = size32 ∧ offLow w.off = 0#2 ∧ w.dir = 0#1
  · obtain ⟨hsize, hlow, hdir⟩ := hread
    obtain ⟨r, hr, hname, hcovers⟩ := exists_row_of_encode (encode_decodeTxn_of_read hsize hlow hdir)
    have hw : Txn.make 0#1 size32 w.off w.data = w := make_eq_self hdir hsize rfl
    exact ⟨r, hr, hname, hw ▸ covers_read_of_covers hr w.data hcovers⟩
  · exact exists_row_of_encode (encode_decodeTxn_of_not_read hread)

/-! ## No earlier row claims the word -/

/-- The two rows ask the same of every bit that both ask about. -/
def Compatible (r r' : TxnRow) : Prop := r.pattern &&& r'.mask = r'.pattern &&& r.mask

/-- Two rows that cover one word are compatible. -/
theorem compatible_of_covers {r r' : TxnRow} {w : Txn} (h : r.covers w = true) (h' : r'.covers w = true) :
    Compatible r r' := by
  have hp : w &&& r.mask = r.pattern := beq_iff_eq.1 h
  have hp' : w &&& r'.mask = r'.pattern := beq_iff_eq.1 h'
  rw [Compatible, ← hp, ← hp', BitVec.and_assoc, BitVec.and_assoc, BitVec.and_comm r.mask]

/-- The row is a single word that decodes to an operation of another row than `r'`. -/
def TakesFrom (r r' : TxnRow) : Prop := r.mask = BitVec.allOnes 41 ∧ (decodeTxn r.pattern).mnemonic ≠ r'.mnemonic

/-- A row that covers a word and takes it from `r'` shows that `r'` is not the row of the word's operation. -/
theorem mnemonic_ne_of_takesFrom {r r' : TxnRow} {w : Txn} (h : TakesFrom r r') (hw : r.covers w = true) :
    (decodeTxn w).mnemonic ≠ r'.mnemonic := by
  obtain ⟨hmask, hne⟩ := h
  have hpattern : w &&& r.mask = r.pattern := beq_iff_eq.1 hw
  rw [hmask, BitVec.and_allOnes] at hpattern
  rwa [hpattern]

/-- The order of two rows matters for BEGIN_EXC and BEGIN_ACQ before CMD_ILLEGAL only, where the earlier row is the one
word taken from the later (R98); all other rows are disjoint. -/
theorem txnTable_pairwise : txnTable.Pairwise fun r r' => Compatible r r' → TakesFrom r r' := by
  unfold Compatible TakesFrom
  decide

/-- Settles O2: the row of the decoded operation covers the word, so some row is found; were it an earlier one, the two
would be compatible, and the word one that the earlier row takes from its own. -/
theorem decodeIsFirstOpcodeTableRow : Obligations.DecodeIsFirstOpcodeTableRow := by
  intro w
  obtain ⟨own, hown, hname, hcovers⟩ := exists_row_of_decodeTxn w
  cases hfind : txnTable.find? fun r => r.covers w with
  | none => exact absurd hcovers (List.find?_eq_none.1 hfind own hown)
  | some first =>
    obtain ⟨hfirst, before, after, htable, hbefore⟩ := List.find?_eq_some_iff_append.1 hfind
    have hpair := txnTable_pairwise
    rw [htable] at hown hpair
    obtain ⟨_, hafter, _⟩ := List.pairwise_append.1 hpair
    rcases List.mem_append.1 hown with hmem | hmem
    · exact absurd hcovers (by simpa using hbefore own hmem)
    rcases List.mem_cons.1 hmem with rfl | hmem
    · exact congrArg some hname
    · -- the found row comes before the word's own
      have htakes := List.rel_of_pairwise_cons hafter hmem (compatible_of_covers hfirst hcovers)
      exact absurd hname.symm (mnemonic_ne_of_takesFrom htakes hfirst)

end Sys2Proof.Laws

/-! PROOF. The event codes (R99) and the STATUS word that RD_STATUS returns (R94). -/

namespace Sys2Proof.Machine

/-! ## Event codes -/

theorem State.takeLabel_of_badEvent {s : State} {l : Label} {code : EvtCode} (rest : List Label)
    (hl : decodeLabel s.params.itcBase l = .badEvent code) :
    s.takeLabel l rest = .refused (.eventCodeNeverProduced code) := by
  simp only [State.takeLabel, hl]

/-- The codes 3 to 15 name no event (R99). -/
theorem decodeEvt_of_two_lt {code : EvtCode} (x : Sample) (h : 2#4 < code) : decodeEvt code x = none := by
  have hlt : 2 < code.toNat := h
  unfold decodeEvt
  split
  case h_4 => rfl
  all_goals omega

theorem decodeLabel_evt_of_two_lt (base : Nat) {code : EvtCode} (x : Sample) (h : 2#4 < code) :
    decodeLabel base (.evt code x) = .badEvent code := by
  simp only [decodeLabel, decodeEvt_of_two_lt x h]

/-- Settles O5: a step takes the label, and the decode of its code names the event or refuses the code. -/
theorem eventCodesDecode : Obligations.EventCodesDecode := by
  intro s rest code x hs
  refine ⟨?_, ?_, ?_, fun hcode => ?_⟩
  · rintro rfl
    exact stepRunsTheDecodedInstr s _ rest _ hs rfl
  · rintro rfl
    exact stepRunsTheDecodedInstr s _ rest _ hs rfl
  · rintro rfl
    exact stepRunsTheDecodedInstr s _ rest _ hs rfl
  · exact (step_of_schedule_cons hs).trans
      (State.takeLabel_of_badEvent rest (decodeLabel_evt_of_two_lt _ x hcode))

/-! ## The STATUS word -/

theorem statusWord_mode (s : State) : s.statusWord.getLsbD 1 = decide (s.mode = .acq) := by
  simp only [State.statusWord, BitVec.getLsbD_append]
  cases s.mode <;> simp [Mode.code]

theorem statusWord_avail (s : State) : s.statusWord.getLsbD 2 = decide (s.rbWidx ≠ s.rbRidx) := by
  simp only [State.statusWord, BitVec.getLsbD_append]
  simp [bit, State.avail, bne, Bool.beq_eq_decide_eq]

theorem statusWord_bit3 (s : State) : s.statusWord.getLsbD 3 = false := by
  simp only [State.statusWord, BitVec.getLsbD_append]
  simp

theorem statusWord_bits7_6 (s : State) : s.statusWord.extractLsb' 6 2 = 0#2 := by
  apply BitVec.eq_of_getLsbD_eq
  intro i hi
  simp only [State.statusWord, BitVec.getLsbD_extractLsb', BitVec.getLsbD_append]
  interval_cases i <;> simp

/-- Seven fields, eleven bits in all, lie below the top 21. -/
theorem statusWord_bits31_11 (s : State) : s.statusWord.extractLsb' 11 21 = 0#21 := by
  unfold State.statusWord
  iterate 7 rw [BitVec.extractLsb'_append_eq_of_le]
  all_goals decide

/-- Settles O10: the read answers with `statusWord`, whose fields are the lemmas above and, for COMPLETED, RESULT and
CFG_CAUSE, what the host reads in it. -/
theorem statusReadHasTheLayout : Obligations.StatusReadHasTheLayout := by
  intro s
  refine ⟨s.statusWord, rfl, isDone_statusWord s, statusWord_mode s, statusWord_avail s, statusWord_bit3 s,
    (resultField_statusWord s).trans ?_, statusWord_bits7_6 s, (causeField_statusWord s).trans ?_,
    statusWord_bits31_11 s⟩
  · cases s.result <;> rfl
  · cases s.cfgCause <;> rfl

end Sys2Proof.Machine

/-! PROOF. The Waveform Table scatters the 8 index bits over the PERM lines, and `unscatter` gathers them again: both
are one fold that sets a line for each bit that is 1 (R120, R123, R124, R127). -/

namespace Sys2Proof.Machine

/-! ## Setting one line for each bit that is 1 -/

/-- The code with line `line j` set for each `j` of the list with `on j`. -/
def setLines {w : Nat} (line : Fin 8 → Fin w) (on : Fin 8 → Bool) (js : List (Fin 8)) (code : BitVec w) : BitVec w :=
  js.foldl (fun acc j => if on j then acc ||| (1#w <<< (line j).val) else acc) code

theorem setLines_cons {w : Nat} (line : Fin 8 → Fin w) (on : Fin 8 → Bool) (j : Fin 8) (js : List (Fin 8))
    (code : BitVec w) : setLines line on (j :: js) code =
      setLines line on js (if on j then code ||| (1#w <<< (line j).val) else code) := rfl

theorem getLsbD_one_shiftLeft_iff {w : Nat} (l : Fin w) (n : Nat) :
    (1#w <<< l.val).getLsbD n = true ↔ l.val = n := by
  rw [← BitVec.twoPow_eq, BitVec.getLsbD_twoPow]
  simp

/-- A line is set after the fold exactly if it was set before or belongs to a bit that is 1. -/
theorem getLsbD_setLines_iff {w : Nat} (line : Fin 8 → Fin w) (on : Fin 8 → Bool) (n : Nat) (js : List (Fin 8))
    (code : BitVec w) : (setLines line on js code).getLsbD n = true ↔
      code.getLsbD n = true ∨ ∃ j ∈ js, (line j).val = n ∧ on j = true := by
  induction js generalizing code with
  | nil => simp [setLines]
  | cons j js ih =>
    rw [setLines_cons, ih, List.exists_mem_cons_iff, ← or_assoc]
    refine or_congr_left ?_
    split
    · next hon => simp only [BitVec.getLsbD_or, Bool.or_eq_true, getLsbD_one_shiftLeft_iff, hon, and_true]
    · next hoff => simp only [hoff, Bool.false_eq_true, and_false, or_false]

/-- Adding the weight of a line that is 0 sets the line: there is no carry. -/
theorem add_one_shiftLeft_eq_or {w : Nat} {code : BitVec w} {l : Fin w} (h : code.getLsbD l = false) :
    code + (1#w <<< l.val) = code ||| (1#w <<< l.val) := by
  refine BitVec.add_eq_or_of_and_eq_zero _ _ (BitVec.eq_of_getLsbD_eq fun n _ => ?_)
  rw [BitVec.getLsbD_zero, ← Bool.not_eq_true, BitVec.getLsbD_and, Bool.and_eq_true, getLsbD_one_shiftLeft_iff]
  rintro ⟨hset, rfl⟩
  exact absurd hset (Bool.eq_false_iff.1 h)

/-- The sum of the weights of distinct lines, all of them 0 before, sets those lines. -/
theorem foldl_add_eq_setLines {w : Nat} {line : Fin 8 → Fin w} (hline : Function.Injective line) (on : Fin 8 → Bool)
    {js : List (Fin 8)} (hnodup : js.Nodup) {code : BitVec w} (hcode : ∀ j ∈ js, code.getLsbD (line j) = false) :
    js.foldl (fun acc j => if on j then acc + (1#w <<< (line j).val) else acc) code = setLines line on js code := by
  induction js generalizing code with
  | nil => rfl
  | cons j js ih =>
    obtain ⟨hj, hjs⟩ := List.nodup_cons.1 hnodup
    obtain ⟨hline_j, hline_js⟩ := List.forall_mem_cons.1 hcode
    rw [setLines_cons, List.foldl_cons, add_one_shiftLeft_eq_or hline_j]
    refine ih hjs fun k hk => ?_
    have hne : (line j).val ≠ (line k).val := fun heq => hj (hline (Fin.ext heq) ▸ hk)
    split
    · rw [BitVec.getLsbD_or, hline_js k hk, Bool.false_or, ← Bool.not_eq_true, getLsbD_one_shiftLeft_iff]
      exact hne
    · exact hline_js k hk

/-! ## The Waveform Table and its inverse, bit by bit -/

theorem wt_eq_setLines (perm : Vector (Fin 32) 8) (i : BitVec 8) :
    wt perm i = setLines (fun j => perm[j]) (fun j => i.getLsbD j) (List.finRange 8) 0#32 := rfl

/-- The lines of WT[i] are those of the bits of i that are 1, for any PERM (R120). -/
theorem getLsbD_wt_iff (perm : Vector (Fin 32) 8) (i : BitVec 8) (n : Nat) :
    (wt perm i).getLsbD n = true ↔ ∃ j : Fin 8, perm[j].val = n ∧ i.getLsbD j = true := by
  simp [wt_eq_setLines, getLsbD_setLines_iff]

/-- No two input bits share a line (R121). -/
theorem perm_injective {perm : Vector (Fin 32) 8} (h : perm.toList.Nodup) :
    Function.Injective fun j : Fin 8 => perm[j] := by
  have hlist : perm.toList = List.ofFn fun j : Fin 8 => perm[j] := by
    rw [← Vector.toList_ofFn]
    exact congrArg Vector.toList (Vector.ext fun j hj => by simp)
  rwa [hlist, List.nodup_ofFn] at h

/-- With distinct lines, line PERM[j] of WT[i] carries bit j of i (R120). -/
theorem getLsbD_wt_perm {perm : Vector (Fin 32) 8} (h : perm.toList.Nodup) (i : BitVec 8) (j : Fin 8) :
    (wt perm i).getLsbD perm[j].val = i.getLsbD j := by
  rw [Bool.eq_iff_iff, getLsbD_wt_iff]
  constructor
  · rintro ⟨k, hk, hbit⟩
    rwa [← perm_injective h (Fin.ext hk)]
  · exact fun hbit => ⟨j, rfl, hbit⟩

/-- The sum of R123 sets distinct bits, from a code that is 0. -/
theorem unscatter_eq_setLines (perm : Vector (Fin 32) 8) (c : Word) :
    unscatter perm c = setLines id (fun j => c.getLsbD perm[j].val) (List.finRange 8) 0#8 :=
  foldl_add_eq_setLines Function.injective_id _ (List.nodup_finRange 8) fun _ _ => BitVec.getLsbD_zero

/-- Bit j of unscatter(c) is line PERM[j] of c (R123). -/
theorem getLsbD_unscatter (perm : Vector (Fin 32) 8) (c : Word) (j : Fin 8) :
    (unscatter perm c).getLsbD j = c.getLsbD perm[j].val := by
  rw [Bool.eq_iff_iff, unscatter_eq_setLines, getLsbD_setLines_iff]
  simp [Fin.val_inj]

/-- WT read back gives the index (R123). -/
theorem unscatter_wt {perm : Vector (Fin 32) 8} (h : perm.toList.Nodup) (i : BitVec 8) :
    unscatter perm (wt perm i) = i :=
  BitVec.eq_of_getLsbD_eq fun j hj =>
    (getLsbD_unscatter perm (wt perm i) ⟨j, hj⟩).trans (getLsbD_wt_perm h i ⟨j, hj⟩)

/-- Settles O25: the lines of WT[i] are those of the set bits of i, and no two bits share a line. -/
theorem waveformTableScattersBits : Obligations.WaveformTableScattersBits := by
  intro perm i hperm
  exact ⟨getLsbD_wt_perm hperm i, fun n => (getLsbD_wt_iff perm i n).1⟩

/-- Settles O26: a map with a left inverse is injective. -/
theorem waveformTableIsInvertible : Obligations.WaveformTableIsInvertible := by
  intro perm hperm
  exact ⟨unscatter_wt hperm, Function.LeftInverse.injective (unscatter_wt hperm)⟩

/-! ## The corner cases -/

theorem wt_zero (perm : Vector (Fin 32) 8) : wt perm 0#8 = 0#32 := by
  refine BitVec.eq_of_getLsbD_eq fun n _ => ?_
  rw [BitVec.getLsbD_zero, ← Bool.not_eq_true, getLsbD_wt_iff]
  simp

/-- WT[0xFF] sets every line of PERM and no other (R124). -/
theorem getLsbD_wt_ones_iff (perm : Vector (Fin 32) 8) (n : Fin 32) :
    (wt perm 0xFF#8).getLsbD n = true ↔ n ∈ perm.toList := by
  have hones : ∀ j : Fin 8, (0xFF#8).getLsbD j = true := by decide
  rw [getLsbD_wt_iff, Vector.mem_toList_iff, Vector.mem_iff_getElem]
  constructor
  · rintro ⟨j, hj, _⟩
    exact ⟨j, j.isLt, Fin.ext hj⟩
  · rintro ⟨j, hj, rfl⟩
    exact ⟨⟨j, hj⟩, rfl, hones ⟨j, hj⟩⟩

/-- The lines of WT[i] are a rearrangement of the images of the set bits of i under PERM. -/
theorem lines_wt_perm {perm : Vector (Fin 32) 8} (h : perm.toList.Nodup) (i : BitVec 8) :
    ((List.finRange 32).filter fun n => (wt perm i).getLsbD n.val).Perm
      (((List.finRange 8).filter fun j => i.getLsbD j.val).map fun j => perm[j]) := by
  refine (List.perm_ext_iff_of_nodup ((List.nodup_finRange 32).filter _)
    (((List.nodup_finRange 8).filter _).map (perm_injective h))).2 fun n => ?_
  simp only [List.mem_filter, List.mem_map, List.mem_finRange, true_and, getLsbD_wt_iff, Fin.ext_iff, and_comm]

/-- WT keeps the number of bits that are 1 (R124). -/
theorem countP_wt {perm : Vector (Fin 32) 8} (h : perm.toList.Nodup) (i : BitVec 8) :
    (List.finRange 32).countP (fun n => (wt perm i).getLsbD n.val) =
      (List.finRange 8).countP fun j => i.getLsbD j.val := by
  rw [List.countP_eq_length_filter, (lines_wt_perm h i).length_eq, List.length_map, ← List.countP_eq_length_filter]

/-- Settles O27: the first two corner cases hold for any PERM; the count of set bits needs distinct lines. -/
theorem waveformTableCorners : Obligations.WaveformTableCorners := by
  intro perm hperm
  exact ⟨wt_zero perm, getLsbD_wt_ones_iff perm, countP_wt hperm⟩

/-! ## The excitation code -/

/-- SINE16 is read at k mod 16 (R127, R128). -/
theorem sineAt_of_mod {p : Params} {k : Word} {j : Fin 16} (h : k.toNat % 16 = j.val) : sineAt p k = p.sine16[j] := by
  simp only [sineAt, h, Fin.getElem_fin]

/-- The wrap of the 32-bit sum keeps the remainder, for 16 divides 2^32. -/
theorem toNat_add_sixteen_mod (k : Word) : (k + 16#32).toNat % 16 = k.toNat % 16 := by
  rw [BitVec.toNat_add, Nat.mod_mod_of_dvd _ (by decide)]
  exact Nat.add_mod_right k.toNat 16

/-- Settles O28: k and k + 16 read the same entry of SINE16. -/
theorem excitationCodeIsPeriodic : Obligations.ExcitationCodeIsPeriodic := by
  intro p k j
  have hentry : sineAt p (k + 16#32) = sineAt p k := by
    simp only [sineAt, toNat_add_sixteen_mod]
  exact ⟨fun hj => congrArg (wt p.perm) (sineAt_of_mod hj), congrArg (wt p.perm) hentry⟩

end Sys2Proof.Machine

/-! PROOF. DERIVE: its two quotients as floors of exact rationals (R142, R144, R145), and its answer in each case of
its checks (R146, R147, R148). -/

namespace Sys2Proof.Machine

/-! ## The two quotients as exact rationals -/

/-- SYSCLK_HZ / f_eff + 1/2 is the fraction whose integer quotient is cpt_raw (R142). -/
theorem half_up_eq_div (p : Params) {fEff : Nat} (hf : 1 ≤ fEff) :
    (p.sysclkHz : ℚ) / fEff + 1 / 2 = ((2 * p.sysclkHz + fEff : Nat) : ℚ) / ((2 * fEff : Nat) : ℚ) := by
  push_cast
  field_simp

/-- Division by the exact sample period is multiplication by f_eff (R144, R145). -/
theorem ticks_eq_div (dur : Word) {fEff : Nat} (hf : 1 ≤ fEff) :
    (dur.toNat : ℚ) * 1000 / (1000000 / fEff) = dur.toNat * fEff / 1000 := by
  field_simp
  norm_num

/-- The truncated total tick count is the floor of the exact one (R145). -/
theorem ttOf_eq_floor (dur : Word) (fEff : Nat) :
    ((ttOf dur fEff : Nat) : Int) = ⌊(dur.toNat : ℚ) * fEff / 1000⌋ := by
  have hfloor := Rat.floor_natCast_div_natCast (dur.toNat * fEff) 1000
  push_cast at hfloor
  exact hfloor.symm

/-- Settles O21: SYSCLK_HZ / f_eff + 1/2 is one fraction of naturals, whose floor is their integer quotient. -/
theorem cyclesAreRoundedHalfUp : Obligations.CyclesAreRoundedHalfUp := by
  intro p fEff hf
  refine ⟨?_, rfl⟩
  rw [half_up_eq_div p hf, Rat.floor_natCast_div_natCast]
  rfl

/-- Settles O22: the exact tick count is the fraction dur * f_eff / 1000. -/
theorem ticksAreTruncated : Obligations.TicksAreTruncated := by
  intro dur fEff hf
  exact ⟨ticks_eq_div dur hf, ticks_eq_div dur hf ▸ ttOf_eq_floor dur fEff, rfl⟩

/-! ## What DERIVE answers in each case of its checks (R146) -/

/-- f_eff with EXC_MULT = 16 written out (R141). -/
theorem effFreq_eq (m : Mode) (freq : Word) : effFreq m freq = freq.toNat * (if m = .exc then 16 else 1) := by
  cases m <;> rfl

section
variable {p : Params} {m : Mode} {freq dur : Word}

theorem derive_of_freq_zero (hfreq : freq = 0#32) : derive p m freq dur = .err .freqZero := by
  simp only [derive, if_pos hfreq]

theorem derive_of_cpt_low (hfreq : freq ≠ 0#32) (hlow : cptOf p (effFreq m freq) < p.minCpt) :
    derive p m freq dur = .err .cptLow := by
  simp only [derive, if_neg hfreq, if_pos hlow]

theorem derive_of_cpt_high (hfreq : freq ≠ 0#32) (hmin : (p.minCpt : Int) ≤ cptOf p (effFreq m freq))
    (hhigh : cptOf p (effFreq m freq) > 2 ^ Config.trigW - 1) : derive p m freq dur = .err .cptHigh := by
  simp only [derive, if_neg hfreq, if_neg hmin.not_gt, if_pos hhigh]

theorem derive_of_tt_high (hfreq : freq ≠ 0#32) (hmin : (p.minCpt : Int) ≤ cptOf p (effFreq m freq))
    (hmax : cptOf p (effFreq m freq) ≤ 2 ^ Config.trigW - 1) (htt : ttOf dur (effFreq m freq) > 2 ^ 32 - 1) :
    derive p m freq dur = .err .ttHigh := by
  simp only [derive, if_neg hfreq, if_neg hmin.not_gt, if_neg hmax.not_gt, if_pos htt]

theorem derive_of_legal (hfreq : freq ≠ 0#32) (hmin : (p.minCpt : Int) ≤ cptOf p (effFreq m freq))
    (hmax : cptOf p (effFreq m freq) ≤ 2 ^ Config.trigW - 1) (htt : ttOf dur (effFreq m freq) ≤ 2 ^ 32 - 1) :
    derive p m freq dur =
      .ok (BitVec.ofInt 32 (cptOf p (effFreq m freq))) (BitVec.ofNat 32 (ttOf dur (effFreq m freq))) := by
  simp only [derive, if_neg hfreq, if_neg hmin.not_gt, if_neg hmax.not_gt, if_neg htt.not_gt]

/-- An Ok answer has passed the first check (R146). -/
theorem derive_eq_ok_freq_ne_zero {cpt tt : Word} (h : derive p m freq dur = .ok cpt tt) : freq ≠ 0#32 := by
  intro hfreq
  rw [derive_of_freq_zero hfreq] at h
  cases h

/-- Only a cpt of more than 32 bits gives CPT_HIGH (R146). -/
theorem derive_eq_cptHigh (h : derive p m freq dur = .err .cptHigh) :
    cptOf p (effFreq m freq) > 2 ^ Config.trigW - 1 := by
  by_contra hmax
  simp only [derive, if_neg hmax] at h
  split_ifs at h <;> cases h

end

/-- No cycle count exceeds the clock's frequency, for f_eff is an integer; an f_eff of 0 gives 0. -/
theorem cptRaw_le_sysclkHz (p : Params) (fEff : Nat) : cptRaw p fEff ≤ p.sysclkHz := by
  rcases Nat.eq_zero_or_pos fEff with rfl | hpos
  · simp [cptRaw]
  · have hmul : p.sysclkHz ≤ p.sysclkHz * fEff := Nat.le_mul_of_pos_right _ hpos
    refine Nat.lt_succ_iff.1 ((Nat.div_lt_iff_lt_mul (by omega)).2 ?_)
    calc 2 * p.sysclkHz + fEff
        < 2 * (p.sysclkHz * fEff) + 2 * fEff := by omega
      _ = (p.sysclkHz + 1) * (2 * fEff) := by ring

/-- The latched CPT is cpt itself when cpt is in the range of 32 bits. -/
theorem toNat_ofInt_of_range {n : Int} (hmin : 0 ≤ n) (hmax : n ≤ 2 ^ 32 - 1) :
    ((BitVec.ofInt 32 n).toNat : Int) = n := by
  rw [BitVec.toNat_ofInt, Int.emod_eq_of_lt (by omega) (by omega), Int.toNat_of_nonneg hmin]

/-- Settles O23: with f_eff, cpt and tt written through the model's names, each clause is DERIVE's answer in one case
of its checks; cpt is at most SYSCLK_HZ, so a clock of 32 bits leaves no CPT_HIGH. -/
theorem deriveIsTheFirstFailingCheck : Obligations.DeriveIsTheFirstFailingCheck := by
  intro p m freq dur
  rw [← effFreq_eq]
  refine ⟨derive_of_freq_zero, derive_of_cpt_low, derive_of_cpt_high, derive_of_tt_high,
    fun hfreq hmin hmax htt => ?_, fun hclk hhigh => ?_⟩
  · exact ⟨_, _, derive_of_legal hfreq hmin hmax htt,
      toNat_ofInt_of_range (le_trans (Int.natCast_nonneg _) hmin) hmax,
      (BitVec.toNat_ofNat _ _).trans (Nat.mod_eq_of_lt (Nat.lt_of_le_of_lt htt (by decide)))⟩
  · have hcpt : cptOf p (effFreq m freq) > 2 ^ 32 - 1 := derive_eq_cptHigh hhigh
    have hraw : cptRaw p (effFreq m freq) ≤ p.sysclkHz := cptRaw_le_sysclkHz p _
    rw [cptOf] at hcpt
    omega

/-- Settles O24: an Ok answer has passed the checks on freq and on MIN_CPT, which is at least 1, and each failing
check names its cause. -/
theorem deriveOkIsLegal : Obligations.DeriveOkIsLegal := by
  intro p m freq dur hwf
  obtain ⟨_, hminCpt, _⟩ := p.wf_iff.1 hwf
  refine ⟨fun cpt tt h => ?_, fun h => derive_err_ne_none h rfl⟩
  have hcpt : p.minCpt ≤ cpt.toNat := derive_eq_ok_min h
  exact ⟨hcpt, hminCpt.trans hcpt, derive_eq_ok_freq_ne_zero h⟩

end Sys2Proof.Machine

/-! PROOF. The tick sequencer's events: what FIRE and TICK do when they are enabled, and that they are refused when they
are not (R170, R172-R178). -/

namespace Sys2Proof.Machine

/-! ## FIRE (R170) -/

theorem exec_fire_of_armed {s : State} (h : s.trigArmed = true) :
    exec .fire s = .next { s with trigArmed := false, trigPending := true, response := .none } := if_pos h

theorem exec_fire_of_disarmed {s : State} (h : s.trigArmed = false) : exec .fire s = .refused .fireNotEnabled :=
  if_neg (Bool.eq_false_iff.1 h)

/-- Settles O29. -/
theorem fireMovesArmedToPending : Obligations.FireMovesArmedToPending :=
  fun _ => ⟨exec_fire_of_armed, exec_fire_of_disarmed⟩

/-! ## The block's own event (log 5) -/

/-- The draw of an acquisition is the next free one, and is used up (log 7). -/
theorem State.drawInput_of_acq {s : State} (hm : s.mode = .acq) :
    s.drawInput = (Config.inputDraw s.inputDraws, { s with inputDraws := s.inputDraws + 1 }) := by
  simp only [State.drawInput, hm]

/-- An excitation uses up no draw (R178, log 7). -/
theorem State.drawInput_of_exc {s : State} (hm : s.mode = .exc) : s.drawInput = (0#16, s) := by
  simp only [State.drawInput, hm]
  rfl

theorem State.ownTransition_of_pending {s : State} (hp : s.trigPending = true) :
    s.ownTransition = exec (.tick s.drawInput.1) s.drawInput.2 := if_pos hp

theorem State.ownTransition_of_armed {s : State} (hp : s.trigPending = false) (ha : s.trigArmed = true) :
    s.ownTransition = exec .fire s := by
  simp only [State.ownTransition, hp, ha, if_true, Bool.false_eq_true, if_false]

theorem State.ownTransition_of_quiet {s : State} (hp : s.trigPending = false) (ha : s.trigArmed = false) :
    s.ownTransition = .refused .quiescent := by
  simp only [State.ownTransition, hp, ha, Bool.false_eq_true, if_false]

/-- Settles O7: an empty schedule leaves the step to `ownTransition`, which looks at TRIG_PENDING first. -/
theorem stepTakesTheBlocksOwnEvent : Obligations.StepTakesTheBlocksOwnEvent := by
  intro s hs
  rw [step_of_schedule_nil hs]
  refine ⟨fun hp hm => ?_, fun hp hm => ⟨0#16, ?_⟩, State.ownTransition_of_armed, State.ownTransition_of_quiet⟩
  · rw [State.ownTransition_of_pending hp, State.drawInput_of_acq hm]
  · rw [State.ownTransition_of_pending hp, State.drawInput_of_exc hm]

/-! ## TICK (R172) -/

theorem exec_tick_of_not_pending {s : State} (x : Sample) (hp : s.trigPending = false) :
    exec (.tick x) s = .refused .tickNotEnabled := if_neg (Bool.eq_false_iff.1 hp)

/-- A fitting TICK whose action completes is the four steps (R172, R177). -/
theorem exec_tick_of_action {s u : State} {x : Sample} (hp : s.trigPending = true)
    (hf : handlerFits s.params s.cpt = true) (hu : s.completeOrRearm.tickAction x = some u) :
    exec (.tick x) s = .next (u.countTick.acknowledge.respond .none) := by
  simp only [exec, execTick, hp, hf, hu, if_true]

/-- TICK step 1 written field by field (R172, R175). -/
theorem State.completeOrRearm_eq (s : State) :
    s.completeOrRearm = { s with
      completed := if s.tickCount.toNat + 1 ≥ s.tt.toNat then true else s.completed
      trigArmed := if s.tickCount.toNat + 1 ≥ s.tt.toNat then s.trigArmed else true
      trigLoad := if s.tickCount.toNat + 1 ≥ s.tt.toNat then s.trigLoad else s.cpt } := by
  rcases s.completeOrRearm_cases with ⟨hlast, h⟩ | ⟨hmore, h⟩
  · simp only [h, if_pos hlast]
  · simp only [h, if_neg (not_le.2 hmore)]

theorem State.completeOrRearm_mode (s : State) : s.completeOrRearm.mode = s.mode := by rw [s.completeOrRearm_eq]

/-- A write of one slot, as the slots see it (R75). -/
theorem State.slot_of_write {s t : State} {i : Nat} {v : Sample} (hm : t.rbMem = s.rbMem.write i v)
    (hd : t.rbDraws = s.rbDraws) : t.slot i = v ∧ ∀ a, a ≠ i → t.slot a = s.slot a := by
  refine ⟨?_, fun a ha => ?_⟩
  · rw [State.slot, hm, RbMem.read?_write_same, Option.getD_some]
  · rw [State.slot, hm, hd, RbMem.read?_write_other _ v ha, State.slot]

/-- Settles O30: the action is a push on the slot RB_WIDX, after step 1 and before the count and the acknowledgement,
none of which looks at the ring buffer. -/
theorem acquisitionTickStoresOneSample : Obligations.AcquisitionTickStoresOneSample := by
  intro s x hp hf hm hlt
  have hlt1 : s.completeOrRearm.rbWidx < s.completeOrRearm.params.rbN := by
    rw [s.completeOrRearm_eq]
    exact hlt
  have hact := State.tickAction_of_acq x (s.completeOrRearm_mode.trans hm)
  refine ⟨_, exec_tick_of_action hp hf (hact.trans (State.rbPush_of_lt x hlt1)), State.slot_of_write ?_ ?_, ?_⟩ <;>
    · rw [s.completeOrRearm_eq]
      rfl

/-- Settles O31: the action reads TICK_COUNT, which step 1 leaves as it is. -/
theorem excitationTickDrivesOneCode : Obligations.ExcitationTickDrivesOneCode := by
  intro s x hp hf hm
  rw [exec_tick_of_action hp hf (State.tickAction_of_exc x (s.completeOrRearm_mode.trans hm)), s.completeOrRearm_eq]
  rfl

/-- An excitation TICK does not look at the draw (R178). -/
theorem exec_tick_draw_of_exc {s : State} (hm : s.mode = .exc) (x y : Sample) :
    exec (.tick y) s = exec (.tick x) s := by
  have hm1 := s.completeOrRearm_mode.trans hm
  simp only [exec, execTick, State.tickAction_of_exc x hm1, State.tickAction_of_exc y hm1]

/-- Settles O43: only a push touches the ring buffer, only `excAction` OUT_CODE, and MODE selects one of them. -/
theorem modesAreIsolated : Obligations.ModesAreIsolated := by
  intro s t x h
  obtain ⟨_, ⟨_, rfl⟩ | ⟨_, u, hu, rfl⟩⟩ := execTick_eq_next h
  · exact ⟨fun _ => rfl, fun hm => ⟨rfl, rfl, rfl, fun y => (exec_tick_draw_of_exc hm x y).trans h⟩⟩
  obtain ⟨_, hmem, hwidx, _, hout, _, hovr, _⟩ := s.completeOrRearm_view
  refine ⟨fun hm => ?_, fun hm => ?_⟩
  · rw [State.tickAction_of_acq x (s.completeOrRearm_mode.trans hm)] at hu
    obtain ⟨_, rfl⟩ := State.rbPush_eq_some hu
    simpa using hout
  · rw [State.tickAction_of_exc x (s.completeOrRearm_mode.trans hm)] at hu
    cases hu
    exact ⟨by simpa using hmem, by simpa using hwidx, by simpa using hovr,
      fun y => (exec_tick_draw_of_exc hm x y).trans h⟩

end Sys2Proof.Machine

/-! PROOF. The control invariant (R180, R182): every step keeps it, an idle block is quiet under it, and MODE, CPT and
TT are fixed while a sequence runs (R179). -/

namespace Sys2Proof.Machine

/-! ## What BEGIN and TICK do to the sequencer -/

/-- A BEGIN that completes is one of the two commands. -/
theorem exec_begin_eq_next {i : Instr} {s t : State} (hi : i = .beginExc ∨ i = .beginAcq) (h : exec i s = .next t) :
    ∃ m, t = (s.beginSeq m).respond .ack := by
  rcases hi with rfl | rfl <;> cases h
  · exact ⟨.exc, rfl⟩
  · exact ⟨.acq, rfl⟩

/-- A BEGIN while a sequence runs (R204). -/
theorem State.beginSeq_of_running {s : State} (m : Mode) (hrun : s.completed = false) :
    s.beginSeq m = { s with result := .busy, cfgCause := .none } := by
  simp only [State.beginSeq, hrun, State.setOutcome, Bool.false_eq_true, if_false]

/-- A BEGIN that changes MODE reports OK (R203-R205). -/
theorem State.beginSeq_result_of_mode_ne {s : State} {m : Mode} (h : (s.beginSeq m).mode ≠ s.mode) :
    (s.beginSeq m).result = .ok := by
  rcases s.beginSeq_cases m with ⟨_, e⟩ | ⟨_, _, _, e⟩ | ⟨_, _, _, e⟩ | ⟨_, _, _, _, _, e⟩ <;> rw [e] at h ⊢
  · exact absurd rfl h
  · exact absurd rfl h

/-- A completing operation other than BEGIN and RESET leaves the mode and the latched rate (R179). -/
theorem exec_rate_frame {i : Instr} {s t : State} (h : exec i s = .next t) (hreset : i ≠ .reset)
    (hbegin : ¬ (i = .beginExc ∨ i = .beginAcq)) : t.mode = s.mode ∧ t.cpt = s.cpt ∧ t.tt = s.tt := by
  obtain ⟨hexc, hacq⟩ := not_or.1 hbegin
  obtain ⟨_, _, hcontrol, _⟩ := eachFieldHasItsWriters i s t h hreset
  obtain ⟨hcpt, htt, hmode, _⟩ := hcontrol hexc hacq
  exact ⟨hmode, hcpt, htt⟩

/-- A fitting TICK on the sequencer: it counts and acknowledges, and completes or re-arms (R172, R175). -/
theorem tick_sequencer {s t : State} {x : Sample} (h : exec (.tick x) s = .next t)
    (hf : handlerFits s.params s.cpt = true) :
    t.tickCount = s.tickCount + 1#32 ∧ t.trigPending = false ∧ t.faults = s.faults ∧
    ((s.tt.toNat ≤ s.tickCount.toNat + 1 ∧ t.completed = true ∧ t.trigArmed = s.trigArmed) ∨
     (s.tickCount.toNat + 1 < s.tt.toNat ∧ t.completed = s.completed ∧ t.trigArmed = true ∧ t.trigLoad = s.cpt)) := by
  obtain ⟨_, ⟨hmisfit, _⟩ | ⟨_, u, hu, rfl⟩⟩ := execTick_eq_next h
  · rw [hf] at hmisfit
    cases hmisfit
  rw [tick_frame hu, State.tickAction_frame hu]
  rcases s.completeOrRearm_cases with ⟨hlast, e⟩ | ⟨hmore, e⟩ <;> rw [e]
  · exact ⟨rfl, rfl, rfl, .inl ⟨hlast, rfl, rfl⟩⟩
  · exact ⟨rfl, rfl, rfl, .inr ⟨hmore, rfl, rfl, rfl⟩⟩

/-- A count below another does not wrap when it grows (R182). -/
theorem toNat_add_one_of_lt {c d : Word} (h : c.toNat < d.toNat) : (c + 1#32).toNat = c.toNat + 1 := by
  have hd : d.toNat < 2 ^ 32 := d.isLt
  rw [BitVec.toNat_add, BitVec.toNat_ofNat]
  omega

/-! ## The invariant -/

/-- An idle block's trigger is quiet (R180). -/
theorem State.ControlInv.quiet {s : State} (hs : s.ControlInv) (hidle : s.completed = true) :
    s.trigArmed = false ∧ s.trigPending = false := by
  have hnot : ¬ (s.trigArmed = true ∨ s.trigPending = true) := fun h => by
    have hrun := hs.running_iff.2 h
    rw [hidle] at hrun
    cases hrun
  obtain ⟨harmed, hpending⟩ := not_or.1 hnot
  exact ⟨Bool.eq_false_iff.2 harmed, Bool.eq_false_iff.2 hpending⟩

/-- An idle state that has counted TT ticks with a quiet trigger has the invariant. -/
theorem State.ControlInv.of_idle {s : State} (hidle : s.completed = true) (harmed : s.trigArmed = false)
    (hpending : s.trigPending = false) (hcount : s.tickCount = s.tt) : s.ControlInv where
  running_iff := by simp [hidle, harmed, hpending]
  exclusive := by simp [harmed]
  count_le := by rw [hcount]
  count_lt := by simp [hidle]
  idle_count := fun _ => hcount
  armed_load := by simp [harmed]
  cpt_min := by simp [hidle]

/-- A running state whose trigger is armed with a legal CPT and whose count is below TT has the invariant. -/
theorem State.ControlInv.of_armed {s : State} (hrun : s.completed = false) (harmed : s.trigArmed = true)
    (hpending : s.trigPending = false) (hload : s.trigLoad = s.cpt) (hcount : s.tickCount.toNat < s.tt.toNat)
    (hmin : s.params.minCpt ≤ s.cpt.toNat) : s.ControlInv where
  running_iff := by simp [hrun, harmed]
  exclusive := by simp [hpending]
  count_le := hcount.le
  count_lt := fun _ => hcount
  idle_count := by simp [hrun]
  armed_load := fun _ => hload
  cpt_min := fun _ => hmin

/-- A BEGIN keeps the control invariant: it leaves the sequencer alone, latches TT = 0 and stays idle, or starts with an
armed trigger and a CPT that passed DERIVE (R203, R207). -/
theorem State.ControlInv.beginSeq {s : State} (hs : s.ControlInv) (m : Mode) : (s.beginSeq m).ControlInv := by
  rcases s.beginSeq_cases m with ⟨_, e⟩ | ⟨_, _, _, e⟩ | ⟨hidle, _, _, e⟩ | ⟨hidle, cpt, tt, hd, htt, e⟩ <;> rw [e]
  · exact hs.congr rfl rfl rfl rfl rfl rfl rfl rfl
  · exact hs.congr rfl rfl rfl rfl rfl rfl rfl rfl
  · obtain ⟨harmed, hpending⟩ := hs.quiet hidle
    exact .of_idle hidle harmed hpending rfl
  · obtain ⟨_, hpending⟩ := hs.quiet hidle
    have hpos : (0#32).toNat < tt.toNat := Nat.pos_of_ne_zero fun h0 => htt (BitVec.eq_of_toNat_eq h0)
    exact .of_armed rfl rfl hpending rfl hpos (derive_eq_ok_min hd)

/-- FIRE keeps the control invariant: the trigger passes from armed to pending (R170). -/
theorem State.ControlInv.fire {s t : State} (hs : s.ControlInv) (h : exec .fire s = .next t) : t.ControlInv := by
  obtain ⟨harmed, rfl⟩ := execFire_eq_next h
  have hrun : s.completed = false := hs.running_iff.2 (.inl harmed)
  exact ⟨by simp [hrun], by simp, hs.count_le, hs.count_lt, hs.idle_count, by simp, hs.cpt_min⟩

/-- TICK keeps the control invariant: the count is below TT before it, so it reaches TT exactly when the sequence
completes (R172, R182). -/
theorem State.ControlInv.tick {s t : State} {x : Sample} (hs : s.ControlInv) (h : exec (.tick x) s = .next t) :
    t.ControlInv := by
  cases hf : handlerFits s.params s.cpt with
  | false =>
    obtain ⟨_, ⟨_, rfl⟩ | ⟨hfits, _⟩⟩ := execTick_eq_next h
    · exact hs.congr rfl rfl rfl rfl rfl rfl rfl rfl
    · rw [hf] at hfits
      cases hfits
  | true =>
    obtain ⟨hpending, _⟩ := execTick_eq_next h
    have hrun : s.completed = false := hs.running_iff.2 (.inr hpending)
    have hlt := hs.count_lt hrun
    have hdisarmed : s.trigArmed = false := Bool.eq_false_iff.2 fun harmed => hs.exclusive ⟨harmed, hpending⟩
    have hsum := toNat_add_one_of_lt hlt
    obtain ⟨_, hcpt, htt⟩ := exec_rate_frame h (by simp) (by simp)
    obtain ⟨hcount, hdone, _, ⟨hlast, hidle, harmed⟩ | ⟨hmore, hrun', harmed, hload⟩⟩ := tick_sequencer h hf
    · have hfull : t.tickCount = t.tt := by
        rw [hcount, htt]
        exact BitVec.eq_of_toNat_eq (by omega)
      exact .of_idle hidle (harmed.trans hdisarmed) hdone hfull
    · refine .of_armed (hrun'.trans hrun) harmed hdone (hload.trans hcpt.symm) ?_ ?_
      · rw [hcount, htt, hsum]
        exact hmore
      · rw [exec_params h, hcpt]
        exact hs.cpt_min hrun

/-- Every completing operation keeps the control invariant. -/
theorem State.ControlInv.exec {i : Instr} {s t : State} (hs : s.ControlInv) (h : exec i s = .next t) :
    t.ControlInv := by
  by_cases hreset : i = .reset
  · subst hreset
    cases h
    exact .of_idle rfl rfl rfl rfl
  by_cases hbegin : i = .beginExc ∨ i = .beginAcq
  · obtain ⟨m, rfl⟩ := exec_begin_eq_next hbegin h
    exact (hs.beginSeq m).congr rfl rfl rfl rfl rfl rfl rfl rfl
  by_cases hfire : i = .fire
  · subst hfire
    exact hs.fire h
  by_cases htick : ∃ x, i = .tick x
  · obtain ⟨x, rfl⟩ := htick
    exact hs.tick h
  obtain ⟨hexc, hacq⟩ := not_or.1 hbegin
  obtain ⟨_, _, hcontrol, hevent, _, hparams, _⟩ := eachFieldHasItsWriters i s t h hreset
  obtain ⟨hcpt, htt, _, _, hcount⟩ := hcontrol hexc hacq
  obtain ⟨htickCount, hcompleted, htrigger⟩ := hcount (not_exists.1 htick)
  obtain ⟨harmed, hload⟩ := htrigger hfire
  obtain ⟨_, _, _, _, hpending⟩ := hevent (not_exists.1 htick)
  exact hs.congr hparams hcompleted harmed (hpending hfire) htickCount htt hload hcpt

/-- Settles O35: the invariant does not look at the response, schedule or draws, and every operation keeps it. -/
theorem stepKeepsTheControlInvariant : Obligations.StepKeepsTheControlInvariant := by
  intro s t hs h
  exact step_keeps (P := State.ControlInv) (fun _ _ _ _ hs => hs.congr rfl rfl rfl rfl rfl rfl rfl rfl)
    (fun _ _ _ hs h => hs.exec h) h hs

/-! ## What follows for a running and for an idle block -/

/-- Settles O42: while a sequence runs a BEGIN is busy, and no other operation but RESET writes MODE, CPT or TT. -/
theorem modeAndRateAreFixedInASequence : Obligations.ModeAndRateAreFixedInASequence := by
  intro i s t hreset h
  by_cases hbegin : i = .beginExc ∨ i = .beginAcq
  · obtain ⟨m, rfl⟩ := exec_begin_eq_next hbegin h
    refine ⟨fun hrun => ?_, fun hmode => ⟨hbegin, State.beginSeq_result_of_mode_ne hmode⟩⟩
    rw [State.beginSeq_of_running m hrun]
    exact ⟨rfl, rfl, rfl, fun _ => rfl⟩
  · obtain ⟨hmode, hcpt, htt⟩ := exec_rate_frame h hreset hbegin
    exact ⟨fun _ => ⟨hmode, hcpt, htt, fun hi => absurd hi hbegin⟩, fun hne => absurd hmode hne⟩

/-- Settles O44: an idle block's trigger is neither armed nor pending. -/
theorem idleBlockIsQuiet : Obligations.IdleBlockIsQuiet := by
  intro s x hs hidle
  obtain ⟨harmed, hpending⟩ := hs.quiet hidle
  exact ⟨exec_fire_of_disarmed harmed, exec_tick_of_not_pending x hpending, fun hsched =>
    (step_of_schedule_nil hsched).trans (State.ownTransition_of_quiet hpending harmed)⟩

end Sys2Proof.Machine

/-! PROOF. Liveness (R184, R181): in a weakly fair execution without RESET or fault TICKs come again and again, each one
counts, and a running sequence's count is below TT; so the sequence completes. -/

namespace Sys2Proof.Machine

/-- While a sequence runs, an operation other than TICK and RESET leaves TICK_COUNT as it is: a BEGIN is busy (R204). -/
theorem exec_tickCount_of_not_tick {i : Instr} {s t : State} (h : exec i s = .next t) (hrun : s.completed = false)
    (hreset : i ≠ .reset) (htick : ∀ x, i ≠ .tick x) : t.tickCount = s.tickCount := by
  by_cases hbegin : i = .beginExc ∨ i = .beginAcq
  · obtain ⟨m, rfl⟩ := exec_begin_eq_next hbegin h
    rw [State.beginSeq_of_running m hrun]
    rfl
  · obtain ⟨hexc, hacq⟩ := not_or.1 hbegin
    obtain ⟨_, _, hcontrol, _⟩ := eachFieldHasItsWriters i s t h hreset
    obtain ⟨_, _, _, _, hcount⟩ := hcontrol hexc hacq
    obtain ⟨hcount, _⟩ := hcount htick
    exact hcount

/-- A TICK that leaves FAULTS empty had a handler that fits (R316). -/
theorem handlerFits_of_faults_nil {s t : State} {x : Sample} (h : exec (.tick x) s = .next t)
    (hfaults : t.faults = []) : handlerFits s.params s.cpt = true := by
  obtain ⟨_, ⟨_, rfl⟩ | ⟨hf, _⟩⟩ := execTick_eq_next h
  · exact absurd hfaults (by simp)
  · exact hf

/-- A TICK that leaves FAULTS empty counts, and the count does not wrap (R172, R182). -/
theorem tickCount_of_tick {s t : State} {x : Sample} (h : exec (.tick x) s = .next t) (hs : s.ControlInv)
    (hfaults : t.faults = []) : t.tickCount.toNat = s.tickCount.toNat + 1 := by
  obtain ⟨hpending, _⟩ := execTick_eq_next h
  obtain ⟨hcount, _⟩ := tick_sequencer h (handlerFits_of_faults_nil h hfaults)
  rw [hcount]
  exact toNat_add_one_of_lt (hs.count_lt (hs.running_iff.2 (.inr hpending)))

section
variable {st : Nat → State} {op : Nat → Instr}

theorem Executes.controlInv (hex : Executes st op) (h0 : (st 0).ControlInv) (n : Nat) : (st n).ControlInv := by
  induction n with
  | zero => exact h0
  | succ n ih => exact ih.exec (hex n)

/-- TT is the TT of the start as long as the sequence has run up to there (R179). -/
theorem Executes.tt_of_running (hex : Executes st op) (hreset : ∀ n, op n ≠ .reset) {n : Nat}
    (hrun : ∀ k < n, (st k).completed = false) : (st n).tt = (st 0).tt := by
  induction n with
  | zero => rfl
  | succ n ih =>
    obtain ⟨hfixed, _⟩ := modeAndRateAreFixedInASequence (op n) _ _ (hreset n) (hex n)
    obtain ⟨_, _, htt, _⟩ := hfixed (hrun n n.lt_succ_self)
    exact htt.trans (ih fun k hk => hrun k (hk.trans n.lt_succ_self))

/-- In a fair execution a running sequence's trigger is serviced later on: an armed one first fires (R184). -/
theorem WeaklyFair.exists_tick (hfair : WeaklyFair st op) (hex : Executes st op) (hreset : ∀ n, op n ≠ .reset)
    {n : Nat} (hn : (st n).ControlInv) (hrun : (st n).completed = false) : ∃ m, n ≤ m ∧ ∃ x, op m = .tick x := by
  have of_pending {n : Nat} (hpending : (st n).trigPending = true) : ∃ m, n ≤ m ∧ ∃ x, op m = .tick x := by
    obtain ⟨m, hm, htick⟩ := (hfair n).2 hpending
    exact ⟨m, hm, htick.resolve_right (hreset m)⟩
  rcases hn.running_iff.1 hrun with harmed | hpending
  · obtain ⟨m, hm, hfire⟩ := (hfair n).1 harmed
    have hnext := hex m
    rw [hfire.resolve_right (hreset m)] at hnext
    obtain ⟨_, hfired⟩ := execFire_eq_next hnext
    obtain ⟨k, hk, htick⟩ := of_pending (n := m + 1) (by rw [hfired])
    exact ⟨k, by omega, htick⟩
  · exact of_pending hpending

/-- In an execution that runs for ever without RESET or fault, TICK_COUNT never falls. -/
theorem Executes.tickCount_mono (hex : Executes st op) (hreset : ∀ n, op n ≠ .reset)
    (hfaults : ∀ n, (st n).faults = []) (h0 : (st 0).ControlInv) (hrun : ∀ n, (st n).completed = false) :
    Monotone fun n => (st n).tickCount.toNat := by
  refine monotone_nat_of_le_succ fun n => ?_
  show (st n).tickCount.toNat ≤ (st (n + 1)).tickCount.toNat
  have hnext := hex n
  by_cases htick : ∃ x, op n = .tick x
  · obtain ⟨x, hx⟩ := htick
    rw [hx] at hnext
    rw [tickCount_of_tick hnext (hex.controlInv h0 n) (hfaults (n + 1))]
    exact Nat.le_succ _
  · rw [exec_tickCount_of_not_tick hnext (hrun n) (hreset n) (not_exists.1 htick)]

/-- If the sequence ran for ever, TICK_COUNT would pass every bound. -/
theorem WeaklyFair.tickCount_unbounded (hfair : WeaklyFair st op) (hex : Executes st op)
    (hreset : ∀ n, op n ≠ .reset) (hfaults : ∀ n, (st n).faults = []) (h0 : (st 0).ControlInv)
    (hrun : ∀ n, (st n).completed = false) (bound : Nat) : ∃ n, bound ≤ (st n).tickCount.toNat := by
  induction bound with
  | zero => exact ⟨0, Nat.zero_le _⟩
  | succ bound ih =>
    obtain ⟨n, hn⟩ := ih
    obtain ⟨m, hm, x, hx⟩ := hfair.exists_tick hex hreset (hex.controlInv h0 n) (hrun n)
    have hnext := hex m
    rw [hx] at hnext
    have hcount := tickCount_of_tick hnext (hex.controlInv h0 m) (hfaults (m + 1))
    have hle : (st n).tickCount.toNat ≤ (st m).tickCount.toNat :=
      hex.tickCount_mono hreset hfaults h0 hrun hm
    exact ⟨m + 1, by omega⟩

/-- The count stays below the TT of the start while the sequence runs, so it cannot run for ever (R182). -/
theorem WeaklyFair.exists_completed (hfair : WeaklyFair st op) (hex : Executes st op)
    (hreset : ∀ n, op n ≠ .reset) (hfaults : ∀ n, (st n).faults = []) (h0 : (st 0).ControlInv) :
    ∃ n, (st n).completed = true := by
  by_contra hnone
  have hrun (n : Nat) : (st n).completed = false := Bool.eq_false_iff.2 (not_exists.1 hnone n)
  obtain ⟨n, hn⟩ := hfair.tickCount_unbounded hex hreset hfaults h0 hrun (st 0).tt.toNat
  have hlt := (hex.controlInv h0 n).count_lt (hrun n)
  rw [hex.tt_of_running hreset fun k _ => hrun k] at hlt
  omega

end

/-- Settles O48: up to the first state with COMPLETED = 1 the sequence runs, so TT is the TT of the start there. -/
theorem fairExecutionCompletesTheSequence : Obligations.FairExecutionCompletesTheSequence := by
  intro st op hex hfair hfaults hreset h0 _
  have hcompletes := hfair.exists_completed hex hreset hfaults h0
  have hfirst : (st (Nat.find hcompletes)).completed = true := Nat.find_spec hcompletes
  have hbefore : ∀ k < Nat.find hcompletes, (st k).completed = false := fun k hk =>
    Bool.eq_false_iff.2 (Nat.find_min hcompletes hk)
  exact ⟨_, hfirst, (hex.controlInv h0 _).idle_count hfirst, hex.tt_of_running hreset hbefore⟩

end Sys2Proof.Machine

/-! PROOF. A started sequence under prompt FIRE and TICK pairs (R181, R185): after n pairs n TICKs are counted, and the
outputs are fixed by the number of the TICK or by the draws in their order. -/

namespace Sys2Proof.Machine

/-! ## Runs of the machine -/

theorem run_succ_of_step {s t : State} (k : Nat) (h : step s = .next t) :
    Sys2Proof.core.run (k + 1) s = Sys2Proof.core.run k t := by
  have hcore : Sys2Proof.core.step s = .next t := h
  simp only [Host.Core.run, hcore]

/-- A run after a run. -/
theorem run_add {s t : State} {j : Nat} (k : Nat) (h : Sys2Proof.core.run j s = .next t) :
    Sys2Proof.core.run (j + k) s = Sys2Proof.core.run k t := by
  induction j generalizing s with
  | zero =>
    cases h
    rw [Nat.zero_add]
  | succ j ih =>
    simp only [Host.Core.run] at h
    split at h
    · next u hu =>
      rw [Nat.succ_add, run_succ_of_step (j + k) hu]
      exact ih h
    · cases h
    · cases h

/-! ## The ring buffer as a push sees it -/

/-- The same RB_MEM, indices and lap count, for the same parameters. -/
structure State.SameBuffer (s t : State) : Prop where
  params : t.params = s.params
  rbMem : t.rbMem = s.rbMem
  rbWidx : t.rbWidx = s.rbWidx
  rbRidx : t.rbRidx = s.rbRidx
  ovrCount : t.ovrCount = s.ovrCount

theorem State.SameBuffer.refl (s : State) : s.SameBuffer s := ⟨rfl, rfl, rfl, rfl, rfl⟩

theorem State.SameBuffer.trans {s t u : State} (h : s.SameBuffer t) (h' : t.SameBuffer u) : s.SameBuffer u :=
  ⟨h'.params.trans h.params, h'.rbMem.trans h.rbMem, h'.rbWidx.trans h.rbWidx, h'.rbRidx.trans h.rbRidx,
    h'.ovrCount.trans h.ovrCount⟩

/-- A push on one of two equal buffers is a push on the other. -/
theorem State.SameBuffer.rbPush {s t t' : State} {x : Sample} (h : s.SameBuffer t) (ht : t.rbPush x = some t') :
    ∃ s', s.rbPush x = some s' ∧ s'.SameBuffer t' := by
  obtain ⟨hlt, rfl⟩ := State.rbPush_eq_some ht
  obtain ⟨hparams, hmem, hwidx, hridx, hovr⟩ := h
  rw [hparams, hwidx] at hlt
  exact ⟨_, State.rbPush_of_lt x hlt, hparams, by rw [hmem, hwidx], by rw [hparams, hwidx], hridx,
    by rw [hparams, hwidx, hridx, hovr]⟩

/-! ## One FIRE and TICK pair -/

/-- The two labels of a prompt pair: FIRE, then TICK with the draw `x` (R99). -/
def pairLabels (x : Sample) : List Label := [.evt 0x1#4 0#16, .evt 0x2#4 x]

/-- The state between FIRE and TICK of a pair, with `rest` still scheduled (R170). -/
def State.fired (s : State) (rest : List Label) : State :=
  { s with schedule := rest, trigArmed := false, trigPending := true, response := .none }

/-- The pair from `s` with the draw `x` gives `t`: the trigger is armed, and the TICK after the FIRE completes. -/
def State.Pair (s : State) (x : Sample) (t : State) : Prop :=
  s.trigArmed = true ∧ ∃ rest, exec (.tick x) (s.fired rest) = .next t

/-- A TICK that finds RB_WIDX a slot and the handler fitting completes (R172). -/
theorem exec_tick_completes {s : State} (x : Sample) (hp : s.trigPending = true)
    (hf : handlerFits s.params s.cpt = true) (hslot : s.rbWidx < s.params.rbN) : ∃ t, exec (.tick x) s = .next t := by
  cases hm : s.mode with
  | acq =>
    obtain ⟨t, ht, _⟩ := acquisitionTickStoresOneSample s x hp hf hm hslot
    exact ⟨t, ht⟩
  | exc => exact ⟨_, excitationTickDrivesOneCode s x hp hf hm⟩

/-- Two scheduled labels FIRE and TICK run as a pair. -/
theorem run_pair {s : State} {x : Sample} {rest : List Label} (harmed : s.trigArmed = true)
    (hf : handlerFits s.params s.cpt = true) (hslot : s.rbWidx < s.params.rbN)
    (hsched : s.schedule = pairLabels x ++ rest) :
    ∃ t, Sys2Proof.core.run 2 s = .next t ∧ t.schedule = rest ∧ s.Pair x t := by
  have hfire : step s = .next (s.fired (.evt 0x2#4 x :: rest)) :=
    (stepRunsTheDecodedInstr s _ _ .fire hsched rfl).trans (exec_fire_of_armed harmed)
  obtain ⟨t, ht⟩ := exec_tick_completes (s := s.fired rest) x rfl hf hslot
  have htick : step (s.fired (.evt 0x2#4 x :: rest)) = .next t :=
    (stepRunsTheDecodedInstr (s.fired (.evt 0x2#4 x :: rest)) _ _ (.tick x) rfl rfl).trans ht
  obtain ⟨_, _, _, _, _, _, hrest, _⟩ := eachFieldHasItsWriters (.tick x) _ t ht (by simp)
  exact ⟨t, (run_succ_of_step 1 hfire).trans (run_succ_of_step 0 htick), hrest, harmed, rest, ht⟩

/-- An excitation pair drives exc_code of the count and leaves the ring buffer (R174, R178). -/
theorem State.Pair.of_exc {s t : State} {x : Sample} (h : s.Pair x t) (hm : s.mode = .exc)
    (hf : handlerFits s.params s.cpt = true) : t.outCode = excCode s.params s.tickCount ∧ s.SameBuffer t := by
  obtain ⟨_, rest, ht⟩ := h
  cases (excitationTickDrivesOneCode (s.fired rest) x rfl hf hm).symm.trans ht
  exact ⟨rfl, rfl, rfl, rfl, rfl, rfl⟩

/-- An acquisition pair pushes its draw and drives nothing (R173, R178). -/
theorem State.Pair.of_acq {s t : State} {x : Sample} (h : s.Pair x t) (hm : s.mode = .acq)
    (hf : handlerFits s.params s.cpt = true) :
    t.outCode = s.outCode ∧ ∃ u, s.rbPush x = some u ∧ u.SameBuffer t := by
  obtain ⟨_, rest, ht⟩ := h
  obtain ⟨_, ⟨hmisfit, _⟩ | ⟨_, u, hu, rfl⟩⟩ := execTick_eq_next ht
  · exact absurd (hf.symm.trans hmisfit) (by simp)
  rw [State.tickAction_of_acq x ((s.fired rest).completeOrRearm_mode.trans hm)] at hu
  have hbuffer : s.SameBuffer (s.fired rest).completeOrRearm := by
    rw [State.completeOrRearm_eq]
    exact ⟨rfl, rfl, rfl, rfl, rfl⟩
  obtain ⟨s', hs', hsame⟩ := hbuffer.rbPush hu
  obtain ⟨hout, _⟩ := modesAreIsolated (s.fired rest) _ x ht
  exact ⟨hout hm, s', hs', hsame.trans ⟨rfl, rfl, rfl, rfl, rfl⟩⟩

/-! ## A started sequence -/

/-- `v` is the state of the sequence started at `t` after `n` TICKs: the next interval armed or the sequence over. -/
structure State.Ticked (t : State) (n : Nat) (v : State) : Prop where
  control : v.ControlInv
  ring : v.RingInv
  not_pending : v.trigPending = false
  count : v.tickCount.toNat = n
  params : v.params = t.params
  mode : v.mode = t.mode
  cpt : v.cpt = t.cpt
  tt : v.tt = t.tt
  faults : v.faults = t.faults

/-- Before the last TICK the sequence runs with an armed trigger. -/
theorem State.Ticked.running {t v : State} {n : Nat} (h : t.Ticked n v) (hn : n < t.tt.toNat) :
    v.completed = false ∧ v.trigArmed = true := by
  have hrun : v.completed = false := Bool.eq_false_iff.2 fun hidle => by
    have hcount := congrArg BitVec.toNat (h.control.idle_count hidle)
    rw [h.count, h.tt] at hcount
    omega
  exact ⟨hrun, (h.control.running_iff.1 hrun).resolve_right (Bool.eq_false_iff.1 h.not_pending)⟩

/-- After TT TICKs the sequence is over. -/
theorem State.Ticked.finished {t v : State} (h : t.Ticked t.tt.toNat v) : v.completed = true := by
  refine Bool.eq_true_of_not_eq_false fun hrun => ?_
  have hlt := h.control.count_lt hrun
  rw [h.count, h.tt] at hlt
  exact absurd hlt (Nat.lt_irrefl _)

theorem State.Ticked.handlerFits {t v : State} {n : Nat} (h : t.Ticked n v)
    (hf : Machine.handlerFits t.params t.cpt = true) : Machine.handlerFits v.params v.cpt = true := by
  rw [h.params, h.cpt]
  exact hf

/-- A pair is one more TICK of the sequence (R172). -/
theorem State.Ticked.pair {t v w : State} {n : Nat} {x : Sample} (h : t.Ticked n v) (hn : 2 ≤ t.params.rbN)
    (hf : Machine.handlerFits t.params t.cpt = true) (hpair : v.Pair x w) : t.Ticked (n + 1) w := by
  obtain ⟨harmed, rest, hw⟩ := hpair
  have hring : (v.fired rest).RingInv := h.ring.congr rfl rfl rfl rfl
  have hsched : ({ v with schedule := rest } : State).ControlInv := h.control.congr rfl rfl rfl rfl rfl rfl rfl rfl
  have hcontrol : (v.fired rest).ControlInv := hsched.exec (exec_fire_of_armed harmed)
  obtain ⟨hcount, hpending, hfaults, _⟩ := tick_sequencer hw (h.handlerFits hf)
  obtain ⟨hmode, hcpt, htt⟩ := exec_rate_frame hw (by simp) (by simp)
  have hlt : v.tickCount.toNat < v.tt.toNat := h.control.count_lt (h.control.running_iff.2 (.inl harmed))
  have hsum : w.tickCount.toNat = n + 1 := by
    rw [hcount, ← h.count]
    exact toNat_add_one_of_lt hlt
  exact ⟨hcontrol.exec hw, hring.exec (h.params ▸ hn) hw, hpending, hsum, (exec_params hw).trans h.params,
    hmode.trans h.mode, hcpt.trans h.cpt, htt.trans h.tt, hfaults.trans h.faults⟩

/-! ## From the BEGIN to the end -/

section
variable {s : State} {m : Mode} (hstart : (s.beginSeq m).completed = false)
include hstart

/-- A BEGIN that leaves an idle block running has reset the counter and selected its mode (R203). -/
theorem State.beginSeq_started (hidle : s.completed = true) :
    (s.beginSeq m).tickCount = 0#32 ∧ (s.beginSeq m).mode = m := by
  rcases s.beginSeq_cases m with ⟨hrun, _⟩ | ⟨_, _, _, e⟩ | ⟨_, _, _, e⟩ | ⟨_, _, _, _, _, e⟩
  · exact absurd (hidle.symm.trans hrun) (by simp)
  · rw [e] at hstart
    exact absurd (hidle.symm.trans hstart) (by simp)
  all_goals
    rw [e]
    exact ⟨rfl, rfl⟩

/-- A started sequence begins with no TICK counted. -/
theorem State.ticked_beginSeq (hs : s.ControlInv) (hring : s.RingInv) (hidle : s.completed = true) :
    ((s.beginSeq m).respond .ack).Ticked 0 ((s.beginSeq m).respond .ack) := by
  obtain ⟨_, hpending⟩ := hs.quiet hidle
  obtain ⟨hcount, _⟩ := State.beginSeq_started hstart hidle
  have hframe := s.beginSeq_frame m
  exact ⟨(hs.beginSeq m).congr rfl rfl rfl rfl rfl rfl rfl rfl, hring.congr (by rw [hframe]; rfl) (by rw [hframe]; rfl)
    (by rw [hframe]; rfl) (by rw [hframe]; rfl), by rw [hframe]; exact hpending, congrArg BitVec.toNat hcount,
    rfl, rfl, rfl, rfl, rfl⟩

end

/-- A BEGIN leaves the ring buffer, OUT_CODE and FAULTS as they are. -/
theorem State.beginSeq_data (s : State) (m : Mode) : s.SameBuffer ((s.beginSeq m).respond .ack) ∧
    ((s.beginSeq m).respond .ack).outCode = s.outCode ∧ ((s.beginSeq m).respond .ack).faults = s.faults := by
  rw [s.beginSeq_frame m]
  exact ⟨⟨rfl, rfl, rfl, rfl, rfl⟩, rfl, rfl⟩

section
variable {t : State} {P : List Sample → State → Prop} (hstart : t.Ticked 0 t) (hn : 2 ≤ t.params.rbN)
  (hf : handlerFits t.params t.cpt = true) (hP : P [] t)
  (hpair : ∀ xs x v w, t.Ticked xs.length v → P xs v → v.Pair x w → P (xs ++ [x]) w)
include hstart hn hf hP hpair

/-- The induction over the pairs of a sequence: what holds at its start and is kept by each pair, given the draws so
far, holds after any number of pairs up to TT. -/
theorem run_pairs (xs : List Sample) (rest : List Label) (hlen : xs.length ≤ t.tt.toNat)
    (hsched : t.schedule = xs.flatMap pairLabels ++ rest) :
    ∃ v, Sys2Proof.core.run (2 * xs.length) t = .next v ∧ v.schedule = rest ∧ t.Ticked xs.length v ∧ P xs v := by
  induction xs using List.reverseRecOn generalizing rest with
  | nil => exact ⟨t, rfl, hsched, hstart, hP⟩
  | append_singleton xs x ih =>
    rw [List.length_append, List.length_singleton] at hlen ⊢
    rw [List.flatMap_append, List.flatMap_singleton, List.append_assoc] at hsched
    obtain ⟨v, hv, hvsched, hticked, hPv⟩ := ih (pairLabels x ++ rest) (by omega) hsched
    obtain ⟨_, harmed⟩ := hticked.running (by omega)
    obtain ⟨w, hw, hwsched, hvw⟩ := run_pair harmed (hticked.handlerFits hf) hticked.ring.widx_lt hvsched
    exact ⟨w, (run_add 2 hv).trans hw, hwsched, hticked.pair hn hf hvw, hpair xs x v w hticked hPv hvw⟩

/-- The state after the first `k` of the scheduled pairs. -/
theorem run_pairs_take {xs : List Sample} {rest : List Label} (hlen : xs.length = t.tt.toNat)
    (hsched : t.schedule = xs.flatMap pairLabels ++ rest) {k : Nat} (hk : k ≤ xs.length) :
    ∃ v, Sys2Proof.core.run (2 * k) t = .next v ∧ t.Ticked k v ∧ P (xs.take k) v := by
  have hsplit : t.schedule = (xs.take k).flatMap pairLabels ++ ((xs.drop k).flatMap pairLabels ++ rest) := by
    rw [hsched, ← List.append_assoc, ← List.flatMap_append, List.take_append_drop]
  have hrun := run_pairs hstart hn hf hP hpair _ _ (by rw [List.length_take]; omega) hsplit
  rw [List.length_take_of_le hk] at hrun
  obtain ⟨v, hv, _, hticked, hPv⟩ := hrun
  exact ⟨v, hv, hticked, hPv⟩

end

/-- Settles O47: each pair is one more TICK of the sequence, which runs below TT TICKs and is over after TT. -/
theorem startedSequenceTakesExactlyTtTicks : Obligations.StartedSequenceTakesExactlyTtTicks := by
  intro s t i xs rest hi hn hs hring hidle h hrun hf hlen hsched
  obtain ⟨m, rfl⟩ := exec_begin_eq_next (by simpa using hi) h
  obtain ⟨hbuffer, _, hfaults⟩ := s.beginSeq_data m
  have hstart := State.ticked_beginSeq hrun hs hring hidle
  have hn' := hbuffer.params.symm ▸ hn
  refine ⟨fun k hk => ?_, ?_⟩
  · obtain ⟨v, hv, hticked, _⟩ := run_pairs_take (P := fun _ _ => True) hstart hn' hf trivial
      (fun _ _ _ _ _ _ _ => trivial) hlen hsched hk.le
    obtain ⟨hrunning, _⟩ := hticked.running (hlen ▸ hk)
    exact ⟨v, hv, hrunning, hticked.count⟩
  · obtain ⟨v, hv, hvsched, hticked, _⟩ := run_pairs (P := fun _ _ => True) hstart hn' hf trivial
      (fun _ _ _ _ _ _ _ => trivial) xs rest hlen.le hsched
    have hdone : v.completed = true := (hlen ▸ hticked).finished
    obtain ⟨harmed, hpending⟩ := hticked.control.quiet hdone
    exact ⟨v, hv, hdone, (hticked.control.idle_count hdone).trans hticked.tt, hticked.tt, harmed, hpending, hvsched,
      hticked.faults.trans hfaults⟩

/-! ## What a sequence outputs (R185) -/

/-- An excitation started at `t` after the TICKs with the draws `xs`: the buffer is as it was, and the last TICK drove
the code of its number. -/
def State.Excited (t : State) (xs : List Sample) (v : State) : Prop :=
  t.SameBuffer v ∧ ∀ k, xs.length = k + 1 → v.outCode = excCode t.params (BitVec.ofNat 32 k)

theorem State.Excited.pair {t v w : State} {xs : List Sample} {x : Sample} (hm : t.mode = .exc)
    (hf : handlerFits t.params t.cpt = true) (hticked : t.Ticked xs.length v) (h : t.Excited xs v) (hvw : v.Pair x w) :
    t.Excited (xs ++ [x]) w := by
  obtain ⟨hbuffer, _⟩ := h
  obtain ⟨hout, hsame⟩ := hvw.of_exc (hticked.mode.trans hm) (hticked.handlerFits hf)
  refine ⟨hbuffer.trans hsame, fun k hk => ?_⟩
  have hcount : v.tickCount = BitVec.ofNat 32 k := by
    have hnumber : v.tickCount.toNat = k := by simpa [hticked.count] using hk
    rw [← hnumber, BitVec.ofNat_toNat, BitVec.setWidth_eq]
  rw [hout, hticked.params, hcount]

/-- An acquisition started at `t` after the TICKs with the draws `xs`: OUT_CODE is as it was, and the buffer is the one
that pushing the draws in order gives. -/
def State.Acquired (t : State) (xs : List Sample) (v : State) : Prop :=
  v.outCode = t.outCode ∧ ∃ u, xs.foldlM State.rbPush t = some u ∧ u.SameBuffer v

theorem State.Acquired.pair {t v w : State} {xs : List Sample} {x : Sample} (hm : t.mode = .acq)
    (hf : handlerFits t.params t.cpt = true) (hticked : t.Ticked xs.length v) (h : t.Acquired xs v) (hvw : v.Pair x w) :
    t.Acquired (xs ++ [x]) w := by
  obtain ⟨hout, u, hu, hbuffer⟩ := h
  obtain ⟨hout', v', hv', hsame⟩ := hvw.of_acq (hticked.mode.trans hm) (hticked.handlerFits hf)
  obtain ⟨u', hu', hbuffer'⟩ := hbuffer.rbPush hv'
  refine ⟨hout'.trans hout, u', ?_, hbuffer'.trans hsame⟩
  rw [List.foldlM_append, hu]
  simpa using hu'

/-- Pushes on equal buffers leave equal buffers. -/
theorem State.SameBuffer.foldlM_rbPush {s t t' : State} {xs : List Sample} (h : s.SameBuffer t)
    (ht : xs.foldlM State.rbPush t = some t') : ∃ s', xs.foldlM State.rbPush s = some s' ∧ s'.SameBuffer t' := by
  induction xs generalizing s t with
  | nil =>
    cases ht
    exact ⟨s, rfl, h⟩
  | cons x xs ih =>
    obtain ⟨u, hu, hrest⟩ := Option.bind_eq_some_iff.1 ht
    obtain ⟨v, hv, hsame⟩ := h.rbPush hu
    obtain ⟨s', hs', hsame'⟩ := ih hsame hrest
    exact ⟨s', Option.bind_eq_some_iff.2 ⟨v, hv, hs'⟩, hsame'⟩

/-- A push leaves RB_RIDX to the reader (R231). -/
theorem State.foldlM_rbPush_rbRidx {s t : State} {xs : List Sample} (h : xs.foldlM State.rbPush s = some t) :
    t.rbRidx = s.rbRidx := by
  induction xs generalizing s with
  | nil =>
    cases h
    rfl
  | cons x xs ih =>
    obtain ⟨u, hu, hrest⟩ := Option.bind_eq_some_iff.1 h
    obtain ⟨_, rfl⟩ := State.rbPush_eq_some hu
    exact (ih hrest).trans rfl

/-- Settles O49: `State.Excited` and `State.Acquired` hold at the start and are kept by each pair; a BEGIN leaves the
buffer and OUT_CODE as they were. -/
theorem sequenceOutputIsFixedByTheTickNumber : Obligations.SequenceOutputIsFixedByTheTickNumber := by
  intro s t i xs rest hn hs hring hidle h hrun hf hlen hsched
  refine ⟨?_, ?_⟩
  · rintro rfl k hk
    cases h
    obtain ⟨hbuffer, _⟩ := s.beginSeq_data .exc
    obtain ⟨_, hm⟩ := State.beginSeq_started hrun hidle
    obtain ⟨v, hv, _, hsame, hout⟩ := run_pairs_take (State.ticked_beginSeq hrun hs hring hidle)
      (hbuffer.params.symm ▸ hn) hf (P := State.Excited _) ⟨.refl _, fun _ h0 => nomatch h0⟩
      (fun _ _ _ _ => State.Excited.pair hm hf) hlen hsched hk
    obtain ⟨_, hmem, hwidx, hridx, hovr⟩ := hbuffer.trans hsame
    have hcode := hout k (List.length_take_of_le hk)
    rw [hbuffer.params] at hcode
    exact ⟨v, hv, hcode, hmem, hwidx, hridx, hovr⟩
  · rintro rfl
    cases h
    obtain ⟨hbuffer, hout, _⟩ := s.beginSeq_data .acq
    obtain ⟨_, hm⟩ := State.beginSeq_started hrun hidle
    obtain ⟨v, hv, _, _, hout', u, hu, hsame⟩ := run_pairs (State.ticked_beginSeq hrun hs hring hidle)
      (hbuffer.params.symm ▸ hn) hf (P := State.Acquired _) ⟨rfl, _, rfl, .refl _⟩
      (fun _ _ _ _ => State.Acquired.pair hm hf) xs rest hlen.le hsched
    obtain ⟨u', hu', hsame'⟩ := hbuffer.foldlM_rbPush hu
    obtain ⟨_, hmem, hwidx, hridx, hovr⟩ := hsame'.trans hsame
    exact ⟨v, u', hv, hu', hmem, hwidx, hridx.trans (State.foldlM_rbPush_rbRidx hu'), hovr, hout'.trans hout⟩

end Sys2Proof.Machine

/-! PROOF. The CMD writes (43_controller.md): what each outcome of BEGIN leaves, what CMD_ILLEGAL reports, and the words
the spec writes out for them (R201-R207). -/

namespace Sys2Proof.Machine

open Sys2Proof.Laws

/-! ## The decode of the words -/

/-- A 32-bit write at offset 0 decodes by its DATA alone (R93, R98). -/
theorem decodeTxn_of_commandWrite (data : Word) : decodeTxn (Txn.make 1#1 0b10#2 0x00#6 data) = decodeCommand data :=
  Decoded.instr.inj (decodeLabel_encodeWrite 0 data rfl)

/-- Settles O4: each word is a legal write, a legal read, a byte access or a misaligned access, and R93's branch for
that shape gives its operation. -/
theorem sampleWordsDecode : Obligations.SampleWordsDecode := by
  refine ⟨?beginExc, ?beginAcq, ?cmdIllegal, ?wrArgFreq, ?rdRbData, ?wrRsvd, ?byteWrite, ?misaligned⟩
  case byteWrite => exact decodeTxn_of_size8 rfl
  case misaligned => exact decodeTxn_of_misaligned2 rfl rfl
  case rdRbData => exact decodeTxn_of_read rfl rfl rfl
  all_goals exact decodeTxn_of_write rfl rfl rfl

/-! ## The outcomes of BEGIN -/

/-- BEGIN_EXC and BEGIN_ACQ are BEGIN of their mode, acknowledged (R201, R202). -/
theorem exec_begin_of_mode {i : Instr} {m : Mode}
    (h : (i, m) ∈ [(Instr.beginExc, Mode.exc), (Instr.beginAcq, Mode.acq)]) (s : State) :
    exec i s = .next ((s.beginSeq m).respond .ack) := by
  simp only [List.mem_cons, Prod.mk.injEq, List.not_mem_nil, or_false] at h
  obtain ⟨rfl, rfl⟩ | ⟨rfl, rfl⟩ := h <;> rfl

section
variable {s : State} {m : Mode} (hidle : s.completed = true)
include hidle

/-- A BEGIN in idle whose DERIVE fails (R205). -/
theorem State.beginSeq_of_derive_err {c : CfgCause} (hd : derive s.params m s.argFreq s.argDur = .err c) :
    s.beginSeq m = { s with result := .cfgErr, cfgCause := c } := by
  simp only [State.beginSeq, hidle, if_true, hd, State.setOutcome]

/-- A BEGIN in idle whose DERIVE succeeds commits (R203). -/
theorem State.beginSeq_of_derive_ok {cpt tt : Word} (hd : derive s.params m s.argFreq s.argDur = .ok cpt tt) :
    s.beginSeq m = s.commit m cpt tt := by
  simp only [State.beginSeq, hidle, if_true, hd]

/-- The commit in idle, field by field: with TT = 0 the block stays idle and the trigger as it was, else a sequence
runs and the trigger is armed with CPT (R203, R207). -/
theorem State.commit_of_idle (m : Mode) (cpt tt : Word) :
    s.commit m cpt tt =
      { s with
        cpt := cpt, tt := tt, tickCount := 0#32, mode := m, result := .ok, cfgCause := .none
        completed := decide (tt = 0#32)
        trigArmed := if tt = 0#32 then s.trigArmed else true
        trigLoad := if tt = 0#32 then s.trigLoad else cpt } := by
  by_cases htt : tt = 0#32
  · simp only [State.commit, State.setOutcome, htt, if_true, decide_true, hidle]
  · simp only [State.commit, State.setOutcome, State.arm, htt, if_false, decide_false]

end

/-! ## The causes of a configuration error -/

/-- The codes of R97 for the causes that DERIVE reports are 1 to 4. -/
theorem CfgCause.code_range_of_ne_none {c : CfgCause} (h : c ≠ .none) : 1 ≤ c.code.toNat ∧ c.code.toNat ≤ 4 := by
  cases c with
  | none => exact absurd rfl h
  | freqZero | cptLow | cptHigh | ttHigh => decide

/-! ## The obligations -/

/-- Settles O19. -/
theorem beginStartsOrCompletesAtOnce : Obligations.BeginStartsOrCompletesAtOnce := by
  intro s i m cpt tt hi hidle hd
  rw [exec_begin_of_mode hi, State.beginSeq_of_derive_ok hidle hd, State.commit_of_idle hidle]
  rfl

/-- Settles O18. -/
theorem failedBeginReportsTheCause : Obligations.FailedBeginReportsTheCause := by
  intro s i m c hi hidle hd
  refine ⟨?_, CfgCause.code_range_of_ne_none (derive_err_ne_none hd)⟩
  rw [exec_begin_of_mode hi, State.beginSeq_of_derive_err hidle hd]
  rfl

/-- Settles O17. -/
theorem busyBeginChangesNothingElse : Obligations.BusyBeginChangesNothingElse := by
  intro s i hi hrun
  obtain ⟨m, hm⟩ : ∃ m, (i, m) ∈ [(Instr.beginExc, Mode.exc), (Instr.beginAcq, Mode.acq)] := by
    simpa [exists_or] using hi
  rw [exec_begin_of_mode hm, State.beginSeq_of_running m hrun]
  rfl

/-- Settles O16. -/
theorem illegalCommandReportsOnly : Obligations.IllegalCommandReportsOnly := by
  refine fun s data => ⟨fun hexc hacq => ?_, rfl⟩
  have hwf : (Instr.cmdIllegal data).wf = true := by simp [Instr.wf, hexc, hacq]
  rw [decodeTxn_of_commandWrite, decodeCommand_of_illegal hwf]

end Sys2Proof.Machine

/-! PROOF. The ring buffer as a queue (44_ring_buffer.md): a push appends to the unread samples or laps and empties
them, a pop takes the oldest, and pushes without a pop leave the samples since the last lap (R230-R237). -/

namespace Sys2Proof.Machine

open Sys2Proof.Laws

/-! ## The unread samples as a list -/

theorem State.RingInv.occupancy_lt {s : State} (hs : s.RingInv) : s.occupancy < s.params.rbN :=
  Nat.mod_lt _ (Nat.zero_lt_of_lt hs.widx_lt)

theorem State.RingInv.unread_eq_nil_iff {s : State} (hs : s.RingInv) : s.unread = [] ↔ s.rbWidx = s.rbRidx := by
  rw [← List.length_eq_zero_iff, s.unread_length]
  exact occ_zero hs.widx_lt hs.ridx_lt

/-! ## The push (R231, R232) -/

section
variable {s t : State} {v : Sample} (hn : 2 ≤ s.params.rbN) (hs : s.RingInv) (h : s.rbPush v = some t)
include hn hs h

/-- A push into a buffer with RB_N - 1 unread samples moves RB_WIDX onto RB_RIDX. -/
theorem State.RingInv.rbPush_laps (hfull : s.occupancy + 1 = s.params.rbN) :
    t.unread = [] ∧ t.ovrCount = s.ovrCount + 1#32 := by
  obtain ⟨hwidx, ht⟩ := State.rbPush_eq_some h
  obtain ⟨_, hmeets, _⟩ := occ_push hn hwidx hs.ridx_lt
  have hlap : nextSlot s.params s.rbWidx = s.rbRidx := hmeets.2 hfull
  refine ⟨(hs.rbPush hn h).unread_eq_nil_iff.2 ?_, ?_⟩
  · simp only [ht, hlap]
  · simp only [ht, hlap, if_true]

/-- A push into a buffer with fewer writes the slot after the unread ones, and RB_WIDX stays off RB_RIDX. -/
theorem State.RingInv.rbPush_appends (hroom : s.occupancy + 1 < s.params.rbN) :
    t.unread = s.unread ++ [v] ∧ t.ovrCount = s.ovrCount := by
  obtain ⟨hwidx, ht⟩ := State.rbPush_eq_some h
  obtain ⟨_, hmeets, hgrows, hafter⟩ := occ_push hn hwidx hs.ridx_lt
  obtain ⟨hnew, hold⟩ := State.slot_of_write (s := s) (t := t) (by rw [ht]) (by rw [ht])
  have hlap : nextSlot s.params s.rbWidx ≠ s.rbRidx := fun heq => hroom.ne (hmeets.1 heq)
  have hocc : t.occupancy = s.occupancy + 1 := by
    rw [ht]
    exact hgrows.trans (if_neg hroom.ne)
  have hkept (k : Nat) (hk : k < s.occupancy) :
      t.slot ((s.rbRidx + k) % s.params.rbN) = s.slot ((s.rbRidx + k) % s.params.rbN) :=
    hold _ fun heq => hk.ne (mod_inj (by omega) hs.occupancy_lt (heq.trans hafter.symm))
  have hview : t.rbRidx = s.rbRidx ∧ t.params = s.params := by rw [ht]; exact ⟨rfl, rfl⟩
  refine ⟨?_, by simp only [ht, if_neg hlap]⟩
  calc t.unread
      = (List.range (s.occupancy + 1)).map fun k => t.slot ((s.rbRidx + k) % s.params.rbN) := by
        simp only [State.unread, hocc, hview]
    _ = s.unread ++ [t.slot s.rbWidx] := by
        rw [List.range_succ, List.map_append, List.map_singleton, State.unread,
          List.map_congr_left fun k hk => hkept k (List.mem_range.1 hk)]
        exact congrArg (fun i => _ ++ [t.slot i]) hafter
    _ = s.unread ++ [v] := by rw [hnew]

end

/-- Step 1 of a TICK leaves the queue as it is (R172). -/
theorem State.RingInv.completeOrRearm {s : State} (hs : s.RingInv) :
    s.completeOrRearm.RingInv ∧ s.completeOrRearm.unread = s.unread := by
  rw [s.completeOrRearm_eq]
  exact ⟨hs.congr rfl rfl rfl rfl, State.unread_congr rfl rfl rfl rfl rfl⟩

/-- Settles O50: of the TICK's four steps only the push touches the queue, so it meets the samples unread before; they
number at most RB_N - 1 because the occupancy is a remainder mod RB_N. -/
theorem pushAppendsOrLaps : Obligations.PushAppendsOrLaps := by
  intro s x hn hs hp hf hm
  obtain ⟨hs1, hunread⟩ := hs.completeOrRearm
  obtain ⟨hparams, _, _, _, _, _, hovr, _⟩ := s.completeOrRearm_view
  obtain ⟨u, hu⟩ : ∃ u, s.completeOrRearm.rbPush x = some u := ⟨_, State.rbPush_of_lt x hs1.widx_lt⟩
  have hact := (State.tickAction_of_acq x (s.completeOrRearm_mode.trans hm)).trans hu
  have hu_unread : (u.countTick.acknowledge.respond .none).unread = u.unread := State.unread_congr rfl rfl rfl rfl rfl
  have hlen : s.completeOrRearm.occupancy = s.unread.length := by rw [← State.unread_length, hunread]
  have hlt : s.unread.length < s.params.rbN := s.unread_length ▸ hs.occupancy_lt
  refine ⟨_, exec_tick_of_action hp hf hact, by omega, ?_⟩
  rw [hu_unread, ← hovr, ← hunread]
  exact ⟨fun hroom => hs1.rbPush_appends (by rwa [hparams]) hu (by rw [hlen, hparams, ← hunread]; omega),
    fun hfull => hs1.rbPush_laps (by rwa [hparams]) hu (by rw [hlen, hparams, ← hunread]; omega)⟩

/-! ## Pushes without a pop (R237) -/

/-- One more push within a lap of `n`. -/
theorem mod_div_add_one_of_lt {n k : Nat} (h : k % n + 1 < n) :
    (k + 1) % n = k % n + 1 ∧ (k + 1) / n = k / n := by
  have hone : 1 % n = 1 := Nat.mod_eq_of_lt (by omega)
  have hzero : 1 / n = 0 := Nat.div_eq_of_lt (by omega)
  have hsum : k % n + 1 % n < n := by rwa [hone]
  rw [Nat.add_mod_of_add_mod_lt hsum, Nat.add_div_eq_of_add_mod_lt hsum, hone, hzero]
  exact ⟨rfl, rfl⟩

/-- The push that completes a lap of `n`. -/
theorem mod_div_add_one_of_eq {n k : Nat} (h : k % n + 1 = n) :
    (k + 1) % n = 0 ∧ (k + 1) / n = k / n + 1 := by
  have hdvd : n ∣ k + 1 := by
    have hk := Nat.div_add_mod k n
    exact ⟨k / n + 1, by rw [Nat.mul_add_one]; omega⟩
  exact ⟨Nat.mod_eq_zero_of_dvd hdvd, Nat.succ_div_of_dvd hdvd⟩

/-- `t` is what pushing `xs` into the empty buffer of `s` gives, as R237 says it. -/
structure State.Pushed (s : State) (xs : List Sample) (t : State) : Prop where
  pushes : xs.foldlM State.rbPush s = some t
  ring : t.RingInv
  params : t.params = s.params
  unread : t.unread = xs.drop (xs.length - xs.length % s.params.rbN)
  ovrCount : t.ovrCount = s.ovrCount + BitVec.ofNat 32 (xs.length / s.params.rbN)

theorem State.Pushed.unread_length {s t : State} {xs : List Sample} (h : s.Pushed xs t) :
    t.unread.length = xs.length % s.params.rbN := by
  rw [h.unread, List.length_drop, Nat.sub_sub_self (Nat.mod_le _ _)]

theorem State.Pushed.nil {s : State} (hs : s.RingInv) (hempty : s.rbWidx = s.rbRidx) : s.Pushed [] s where
  pushes := rfl
  ring := hs
  params := rfl
  unread := hs.unread_eq_nil_iff.2 hempty
  ovrCount := by simp

/-- The push that completes a lap of RB_N drops what was readable; any other keeps the lap and adds its sample. -/
theorem State.Pushed.push {s t u : State} {xs : List Sample} {x : Sample} (h : s.Pushed xs t)
    (hn : 2 ≤ s.params.rbN) (hu : t.rbPush x = some u) : s.Pushed (xs ++ [x]) u := by
  have hocc : t.occupancy = xs.length % s.params.rbN := t.unread_length.symm.trans h.unread_length
  have hn' : 2 ≤ t.params.rbN := h.params ▸ hn
  have hlen : (xs ++ [x]).length = xs.length + 1 := List.length_append
  have hpushes : (xs ++ [x]).foldlM State.rbPush s = some u := by
    rw [List.foldlM_append, h.pushes]
    simpa using hu
  have hparams : u.params = s.params := by
    obtain ⟨_, rfl⟩ := State.rbPush_eq_some hu
    exact h.params
  have hring := h.ring.rbPush hn' hu
  have hlt : xs.length % s.params.rbN < s.params.rbN := Nat.mod_lt _ (by omega)
  rcases (Nat.succ_le_of_lt hlt).lt_or_eq with hroom | hfull
  · obtain ⟨hmod, hdiv⟩ := mod_div_add_one_of_lt hroom
    obtain ⟨hunread, hovr⟩ := h.ring.rbPush_appends hn' hu (by rwa [h.params, hocc])
    refine ⟨hpushes, hring, hparams, ?_, ?_⟩
    · rw [hunread, h.unread, hlen, hmod, Nat.add_sub_add_right, List.drop_append_of_le_length (Nat.sub_le _ _)]
    · rw [hovr, h.ovrCount, hlen, hdiv]
  · obtain ⟨hmod, hdiv⟩ := mod_div_add_one_of_eq hfull
    obtain ⟨hunread, hovr⟩ := h.ring.rbPush_laps hn' hu (by rwa [h.params, hocc])
    refine ⟨hpushes, hring, hparams, ?_, ?_⟩
    · rw [hunread, hlen, hmod, Nat.sub_zero, ← hlen, List.drop_length]
    · rw [hovr, h.ovrCount, hlen, hdiv, BitVec.ofNat_add, BitVec.add_assoc]

/-- K pushes complete, for RB_WIDX stays a slot (R75). -/
theorem State.exists_pushed {s : State} (xs : List Sample) (hn : 2 ≤ s.params.rbN) (hs : s.RingInv)
    (hempty : s.rbWidx = s.rbRidx) : ∃ t, s.Pushed xs t := by
  induction xs using List.reverseRecOn with
  | nil => exact ⟨s, .nil hs hempty⟩
  | append_singleton xs x ih =>
    obtain ⟨t, ht⟩ := ih
    exact ⟨_, ht.push hn (State.rbPush_of_lt x ht.ring.widx_lt)⟩

/-- Settles O52. -/
theorem unreadPushesAreTruncated : Obligations.UnreadPushesAreTruncated := by
  intro s xs hn hs hempty
  obtain ⟨t, ht⟩ := State.exists_pushed xs hn hs hempty
  exact ⟨t, ht.pushes, ht.unread, ht.unread_length, ht.ovrCount⟩

/-! ## The pop (R233) -/

/-- The state after a pop of a non-empty buffer. -/
def State.afterPop (s : State) : State :=
  { s with rbRidx := nextSlot s.params s.rbRidx, response := .data (rbDataWord (s.slot s.rbRidx)) }

theorem exec_rdRbData_of_empty {s : State} (hempty : s.rbWidx = s.rbRidx) :
    exec .rdRbData s = .next { s with response := .data 0#32 } := if_neg (not_not.2 hempty)

theorem exec_rdRbData_of_nonempty {s : State} (hne : s.rbWidx ≠ s.rbRidx) (hslot : s.rbRidx < s.params.rbN) :
    exec .rdRbData s = .next s.afterPop := by
  simp only [exec, execRdRbData, if_pos hne, State.memRead, if_pos hslot, State.respond, State.afterPop]

/-- A pop takes the oldest unread sample, the one in slot RB_RIDX, and leaves the rest (R236). -/
theorem State.RingInv.unread_of_nonempty {s : State} (hs : s.RingInv) (hne : s.rbWidx ≠ s.rbRidx) :
    s.unread = s.slot s.rbRidx :: s.afterPop.unread := by
  obtain ⟨hocc, _⟩ := occ_pop (Nat.zero_lt_of_lt hs.ridx_lt) hs.widx_lt hs.ridx_lt hne
  have hsucc : s.occupancy = s.afterPop.occupancy + 1 := hocc.symm
  have hnext (k : Nat) : (s.rbRidx + (k + 1)) % s.params.rbN = (nextSlot s.params s.rbRidx + k) % s.params.rbN := by
    rw [nextSlot, Nat.mod_add_mod, Nat.add_assoc, Nat.add_comm 1 k]
  rw [State.unread, hsucc, List.range_succ_eq_map, List.map_cons, List.map_map, Nat.add_zero,
    Nat.mod_eq_of_lt hs.ridx_lt]
  refine congrArg _ (List.map_congr_left fun k _ => ?_)
  exact congrArg s.slot (hnext k)

/-- VALID, the zero bits and the sample of the RB_DATA word (R95). -/
theorem rbDataWord_fields (x : Sample) : (rbDataWord x).getLsbD 31 = true ∧
    (rbDataWord x).extractLsb' 16 15 = 0#15 ∧ (rbDataWord x).extractLsb' 0 16 = x := by
  obtain ⟨hvalid, hsample⟩ := Option.ite_none_right_eq_some.1 (popped_rbDataWord x)
  refine ⟨hvalid, ?_, Option.some.inj hsample⟩
  apply BitVec.eq_of_getLsbD_eq
  intro i hi
  simp only [rbDataWord, BitVec.getLsbD_extractLsb', BitVec.getLsbD_append]
  interval_cases i <;> simp

/-- Settles O51: the buffer is empty exactly when the indices are equal, which is what the pop and STATUS.AVAIL test. -/
theorem popReturnsTheOldestUnread : Obligations.PopReturnsTheOldestUnread := by
  intro s hs
  have havail := statusWord_avail s
  by_cases hempty : s.rbWidx = s.rbRidx
  · have hnil := hs.unread_eq_nil_iff.2 hempty
    refine ⟨_, _, exec_rdRbData_of_empty hempty, rfl, fun x xs h => ?_, fun _ => ?_⟩
    · exact absurd (hnil.symm.trans h) (List.cons_ne_nil x xs).symm
    · exact ⟨rfl, hnil, by simpa [hempty] using havail⟩
  · have hcons := hs.unread_of_nonempty hempty
    refine ⟨_, _, exec_rdRbData_of_nonempty hempty hs.ridx_lt, rfl, fun x xs h => ?_, fun h => ?_⟩
    · obtain ⟨rfl, rfl⟩ := List.cons.inj (hcons.symm.trans h)
      obtain ⟨hvalid, hzero, hsample⟩ := rbDataWord_fields (s.slot s.rbRidx)
      exact ⟨hvalid, hzero, hsample, rfl, by simpa [hempty] using havail⟩
    · exact absurd (hs.unread_eq_nil_iff.1 h) hempty

/-- A 32-bit read of offset 0x24 decodes by its slot alone (R93). -/
theorem decodeTxn_of_rbDataRead (data : Word) : decodeTxn (Txn.make 0#1 size32 0x24#6 data) = .rdRbData := by
  rw [decodeTxn_of_read (by simp) (by rw [off_make]; rfl) (by simp), off_make]
  rfl

/-- Settles O11: `exec_rdRbData_of_empty` and `exec_rdRbData_of_nonempty` are R233's two cases. -/
theorem popFollowsTheRule : Obligations.PopFollowsTheRule :=
  ⟨decodeTxn_of_rbDataRead 0#32, decodeTxn_of_rbDataRead,
    fun _ => ⟨exec_rdRbData_of_empty, exec_rdRbData_of_nonempty⟩⟩

end Sys2Proof.Machine

/-! PROOF. The plain register accesses and the bus errors (45_register_access.md): a read answers with its register, an
argument write sets its register, any other write is ignored, and an illegal access records BusError (R261-R285). -/

namespace Sys2Proof.Machine

/-! ## The reads (R261-R273, R283) -/

/-- The operation that reads a register; `k` selects one of the four reserved slots (R66). -/
def Reg.readInstr (k : BitVec 2) : Reg → Instr
  | .cmd => .rdCmd
  | .argFreq => .rdArgFreq
  | .argDur => .rdArgDur
  | .status => .rdStatus
  | .cpt => .rdCpt
  | .tt => .rdTt
  | .tickCount => .rdTickCount
  | .rbWidx => .rdRbWidx
  | .rbRidx => .rdRbRidx
  | .ovrCount => .rdOvrCount
  | .outCode => .rdOutCode
  | .rsvd => .rdRsvd k

theorem exec_readInstr (k : BitVec 2) (r : Reg) (s : State) : exec (r.readInstr k) s = readReg r s := by
  cases r <;> rfl

/-- Settles O9: `exec_readInstr` at each register but STATUS, whose word O10 describes. -/
theorem registerReadsGiveTheRegister : Obligations.RegisterReadsGiveTheRegister :=
  fun s k => ⟨exec_readInstr k .cmd s, exec_readInstr k .argFreq s, exec_readInstr k .argDur s, exec_readInstr k .cpt s,
    exec_readInstr k .tt s, exec_readInstr k .tickCount s, exec_readInstr k .rbWidx s, exec_readInstr k .rbRidx s,
    exec_readInstr k .ovrCount s, exec_readInstr k .outCode s, exec_readInstr k .rsvd s⟩

/-! ## The writes (R262, R264, R274-R282, R284) -/

/-- Settles O12: neither write tests the state, a running sequence included (R211). -/
theorem argumentWritesSetTheirRegister : Obligations.ArgumentWritesSetTheirRegister :=
  fun _ _ => ⟨rfl, rfl⟩

/-- Settles O13: each of the ten operations is the one `ignoredWrite`. -/
theorem ignoredWritesChangeNothing : Obligations.IgnoredWritesChangeNothing := by
  intro s data k i hi
  change exec i s = ignoredWrite data s
  simp only [List.mem_cons, List.not_mem_nil, or_false] at hi
  rcases hi with rfl | rfl | rfl | rfl | rfl | rfl | rfl | rfl | rfl | rfl <;> rfl

/-! ## The bus errors (R285, R315) -/

/-- Settles O14: each of the six operations raises its row's fault, and raising records and answers with it only. -/
theorem busErrorsRecordTheAccess : Obligations.BusErrorsRecordTheAccess := by
  intro s dir off slot data i f hrow
  change exec i s = .next (s.raise f)
  simp only [List.mem_cons, Prod.mk.injEq, List.not_mem_nil, or_false] at hrow
  rcases hrow with ⟨rfl, rfl⟩ | ⟨rfl, rfl⟩ | ⟨rfl, rfl⟩ | ⟨rfl, rfl⟩ | ⟨rfl, rfl⟩ | ⟨rfl, rfl⟩ <;> rfl

end Sys2Proof.Machine

/-! PROOF. The host's calls of the API (R290), its command surface (R296) and the bytes of its stream (R291, R292,
R297): what a call's transactions leave of the block and what the call returns. -/

namespace Sys2Proof.Machine

/-! ## The bytes of the stream -/

theorem streamBytes_cons (v : Sample) (vs : List Sample) :
    streamBytes (v :: vs) = v.extractLsb' 0 8 :: v.extractLsb' 8 8 :: streamBytes vs := rfl

theorem streamValues_cons_cons (lo hi : Byte) (bs : List Byte) :
    streamValues (lo :: hi :: bs) = (hi ++ lo) :: streamValues bs := rfl

/-- The two bytes of a value, put together again (R291). -/
theorem high_append_low (v : Sample) : v.extractLsb' 8 8 ++ v.extractLsb' 0 8 = v := by
  have hjoin : v.extractLsb' (0 + 8) 8 ++ v.extractLsb' 0 8 = v.extractLsb' 0 (8 + 8) :=
    BitVec.extractLsb'_append_extractLsb'_eq_extractLsb' rfl
  exact hjoin.trans BitVec.extractLsb'_eq_self

theorem streamValues_streamBytes (xs : List Sample) : streamValues (streamBytes xs) = xs := by
  induction xs with
  | nil => rfl
  | cons v vs ih => rw [streamBytes_cons, streamValues_cons_cons, high_append_low, ih]

theorem streamBytes_append (xs ys : List Sample) : streamBytes (xs ++ ys) = streamBytes xs ++ streamBytes ys := by
  induction xs with
  | nil => rfl
  | cons v vs ih => simp only [List.cons_append, streamBytes_cons, ih]

theorem length_streamBytes (xs : List Sample) : (streamBytes xs).length = 2 * xs.length := by
  induction xs with
  | nil => rfl
  | cons v vs ih => simp only [streamBytes_cons, List.length_cons, ih]; omega

/-- The sentinel is sent as FF FF (R292). -/
theorem streamBytes_sentinel : streamBytes [sentinel] = [0xFF#8, 0xFF#8] := rfl

theorem streamBytes_frame (xs : List Sample) :
    streamBytes (frame xs) = [0xFF#8, 0xFF#8] ++ streamBytes xs ++ [0xFF#8, 0xFF#8] := by
  have hframe : frame xs = [sentinel] ++ xs ++ [sentinel] := rfl
  rw [hframe, streamBytes_append, streamBytes_append, streamBytes_sentinel]

/-- Settles O55: the bytes of a framed list are those of its three parts, two bytes a value. -/
theorem streamBytesAreLowByteFirst : Obligations.StreamBytesAreLowByteFirst := by
  intro xs v
  refine ⟨streamValues_streamBytes xs, streamBytes_cons v xs, streamBytes_frame xs, ?_⟩
  rw [length_streamBytes, frame, List.length_append, List.length_cons, List.length_singleton]
  omega

/-! ## A host whose program is over, and the command surface (R296) -/

/-- A turn of a host whose program is over leaves the system as it is (R364). -/
theorem System.move_host_of_over {y : System} (ho : y.host.over = true) : y.move .host = .next y := by
  have hsettle : y.host.phase ≠ .settle := fun hphase => by simp [HostState.over, hphase] at ho
  simp only [System.move, HostState.issue_of_over ho, if_neg hsettle]

theorem System.moves_host_of_over {y : System} (ho : y.host.over = true) (n : Nat) :
    y.moves (List.replicate n .host) = .next y := by
  induction n with
  | zero => rfl
  | succ n ih => rw [List.replicate_succ, System.moves_cons _ (System.move_host_of_over ho), ih]

/-- The host of a malformed command: an error message, and a program that is over (R296, log 21). -/
def HostState.refuse (text : String) : HostState :=
  { HostState.program [] with phase := .malformed, message := some (Config.errorMessage text) }

theorem HostState.command_of_parse {text : String} {pulseMs readMs : Word}
    (hp : Config.parse text = some (pulseMs, readMs)) : HostState.command text = .experiment pulseMs readMs := by
  simp only [HostState.command, hp]

theorem HostState.command_of_malformed {text : String} (hp : Config.parse text = none) :
    HostState.command text = .refuse text := by
  simp only [HostState.command, hp, HostState.refuse]

/-- Settles O59: the host of a malformed command issues nothing, so each of its turns is `System.move_host_of_over`. -/
theorem malformedCommandReachesNoBlock : Obligations.MalformedCommandReachesNoBlock := by
  intro text
  cases hp : Config.parse text with
  | some durations =>
    obtain ⟨pulseMs, readMs⟩ := durations
    exact .inl ⟨pulseMs, readMs, rfl, HostState.command_of_parse hp⟩
  | none =>
    rw [HostState.command_of_malformed hp]
    exact .inr ⟨rfl, rfl, rfl, fun s n => System.moves_host_of_over (y := ⟨s, .refuse text⟩) rfl n⟩

/-! ## One transaction of a call (R290) -/

/-- The host whose only call is `c`, with the responses `got` to its transactions so far. -/
def HostState.during (c : HostCall) (got : List Response) : HostState := { HostState.program [c] with got := got }

/-- The host whose only call has returned `res`. -/
def HostState.returned (res : CallResult) : HostState := { HostState.program [] with results := [res] }

theorem HostState.issue_during {c : HostCall} {got : List Response} {line : AsmLine} (hc : c.step got = .issue line) :
    (HostState.during c got).issue = some line := by
  simp only [HostState.issue, HostState.during, HostState.program, hc]

theorem HostState.receive_during_of_issue {c : HostCall} {got : List Response} {r : Response} {line : AsmLine}
    (hc : c.step (got ++ [r]) = .issue line) :
    (HostState.during c got).receive r = .during c (got ++ [r]) := by
  simp only [HostState.receive, HostState.callReceive, HostState.during, HostState.program, hc]

theorem HostState.receive_during_of_done {c : HostCall} {got : List Response} {r : Response} {res : CallResult}
    (hc : c.step (got ++ [r]) = .done res) : (HostState.during c got).receive r = .returned res := by
  simp only [HostState.receive, HostState.callReceive, HostState.during, HostState.program, hc]
  rfl

section
variable {s b : State} {c : HostCall} {got : List Response} {line : AsmLine} {i : Instr}
  (hc : c.step got = .issue line) (hd : decodeLabel s.params.itcBase (assemble line) = .instr i)
  (hb : exec i s = .next b)
include hc hd hb

/-- A transaction after which the call goes on. -/
theorem System.move_call_continues {next : AsmLine} (hnext : c.step (got ++ [b.response]) = .issue next) :
    System.move ⟨s, .during c got⟩ .host = .next ⟨b, .during c (got ++ [b.response])⟩ := by
  rw [System.move_host (HostState.issue_during hc) hd hb, HostState.receive_during_of_issue hnext]

/-- A transaction after which the call returns. -/
theorem System.move_call_returns {res : CallResult} (hres : c.step (got ++ [b.response]) = .done res) :
    System.move ⟨s, .during c got⟩ .host = .next ⟨b, .returned res⟩ := by
  rw [System.move_host (HostState.issue_during hc) hd hb, HostState.receive_during_of_done hres]

end

/-! ## The begin calls and is_complete -/

theorem decodeLabel_wr_cmd_beginCode {i : Instr} {m : Mode}
    (h : (i, m) ∈ [(Instr.beginExc, Mode.exc), (Instr.beginAcq, Mode.acq)]) (base : Nat) :
    decodeLabel base (assemble (wr .cmd (beginCode m))) = .instr i := by
  simp only [List.mem_cons, Prod.mk.injEq, List.not_mem_nil, or_false] at h
  obtain ⟨rfl, rfl⟩ | ⟨rfl, rfl⟩ := h
  · exact decodeLabel_begin_exc base
  · exact decodeLabel_begin_acq base

/-- A BEGIN does not look at the response of the transition before it (log 10). -/
theorem State.beginSeq_respond (s : State) (m : Mode) (r : Response) :
    (s.respond r).beginSeq m = (s.beginSeq m).respond r := by
  cases hidle : s.completed with
  | false =>
    rw [State.beginSeq_of_running m hidle, State.beginSeq_of_running (s := s.respond r) m hidle]
    rfl
  | true =>
    cases hd : derive s.params m s.argFreq s.argDur with
    | err c =>
      rw [State.beginSeq_of_derive_err hidle hd, State.beginSeq_of_derive_err (s := s.respond r) hidle hd]
      rfl
    | ok cpt tt =>
      rw [State.beginSeq_of_derive_ok hidle hd, State.beginSeq_of_derive_ok (s := s.respond r) hidle hd,
        State.commit_of_idle hidle, State.commit_of_idle (s := s.respond r) hidle]
      rfl

/-- A begin call of mode `m` from any block: the two argument writes, the BEGIN, the STATUS read (R290). -/
theorem System.moves_beginCall {c : HostCall} {i : Instr} {m : Mode} {f d : Word} (s : State)
    (hc : ∀ got, c.step got = beginCall m f d got)
    (hi : (i, m) ∈ [(Instr.beginExc, Mode.exc), (Instr.beginAcq, Mode.acq)]) :
    ∃ t, exec i { s with argFreq := f, argDur := d } = .next t ∧
      System.moves ⟨s, .program [c]⟩ (List.replicate 4 .host) =
        .next ⟨{ t with response := .data t.statusWord }, .returned (.begun t.result.code t.cfgCause.code)⟩ := by
  obtain ⟨t, hbegin⟩ : ∃ t, exec i { s with argFreq := f, argDur := d } = .next t := ⟨_, exec_begin_of_mode hi _⟩
  have hexec : exec i ({ s with argFreq := f, argDur := d }.respond .ack) = .next t := by
    rw [exec_begin_of_mode hi] at hbegin ⊢
    rw [State.beginSeq_respond]
    exact hbegin
  have hfreq := System.move_call_continues (s := s) (got := []) (hc _) (decodeLabel_wr_argFreq _ f) rfl (hc _)
  have hdur := System.move_call_continues (s := { s with argFreq := f }.respond .ack) (got := [.ack]) (hc _)
    (decodeLabel_wr_argDur _ d) rfl (hc _)
  have hcmd := System.move_call_continues (got := [.ack, .ack]) (hc _) (decodeLabel_wr_cmd_beginCode hi _) hexec (hc _)
  have hresult : c.step [.ack, .ack, t.response, .data t.statusWord] =
      .done (.begun t.result.code t.cfgCause.code) := by
    rw [hc, ← resultField_statusWord, ← causeField_statusWord]
    rfl
  have hstatus := System.move_call_returns (got := [.ack, .ack, t.response]) (hc _) (decodeLabel_rd_status _) rfl hresult
  refine ⟨t, hbegin, ?_⟩
  exact (System.moves_cons _ hfreq).trans <| (System.moves_cons _ hdur).trans <|
    (System.moves_cons _ hcmd).trans (System.moves_cons _ hstatus)

/-- is_complete() from any block: one STATUS read, whose bit 0 is COMPLETED (R208). -/
theorem System.move_isComplete (s : State) :
    System.move ⟨s, .program [.isComplete]⟩ .host =
      .next ⟨{ s with response := .data s.statusWord }, .returned (.complete s.completed)⟩ := by
  refine System.move_call_returns (got := []) rfl (decodeLabel_rd_status _) rfl ?_
  rw [← isDone_statusWord]
  rfl

/-- Settles O57. -/
theorem apiCallsReportTheOutcome : Obligations.ApiCallsReportTheOutcome := by
  intro s f d
  refine ⟨fun c i hcall => ?_, _, System.moves_cons [] (System.move_isComplete s), rfl, rfl, rfl⟩
  obtain ⟨m, hc, hi⟩ : ∃ m, (∀ got, c.step got = beginCall m f d got) ∧
      (i, m) ∈ [(Instr.beginExc, Mode.exc), (Instr.beginAcq, Mode.acq)] := by
    simp only [List.mem_cons, Prod.mk.injEq, List.not_mem_nil, or_false] at hcall
    obtain ⟨rfl, rfl⟩ | ⟨rfl, rfl⟩ := hcall
    · exact ⟨.exc, fun _ => rfl, by simp⟩
    · exact ⟨.acq, fun _ => rfl, by simp⟩
  obtain ⟨t, hbegin, hmoves⟩ := System.moves_beginCall s hc hi
  exact ⟨t, _, hbegin, hmoves, rfl, rfl, rfl⟩

/-! ## drain_available_samples -/

theorem popped_zero : popped 0#32 = none := rfl

/-- The responses to the reads of a drain that has popped `xs` (R233). -/
def popResponses (xs : List Sample) : List Response := xs.map fun x => .data (rbDataWord x)

theorem popResponses_append_singleton (xs : List Sample) (x : Sample) :
    popResponses xs ++ [Response.data (rbDataWord x)] = popResponses (xs ++ [x]) := by
  simp only [popResponses, List.map_append, List.map_singleton]

/-- After samples only the drain reads on (R102). -/
theorem drain_step_popResponses (xs : List Sample) :
    HostCall.step .drainAvailableSamples (popResponses xs) = .issue (rd .rbData) := by
  have hall : (popResponses xs).all (fun r => (popped r.value).isSome) = true := by
    simp [popResponses, Response.value, popped_rbDataWord]
  simp only [HostCall.step, hall, if_true]

theorem drained_popResponses (xs : List Sample) :
    drained ((popResponses xs ++ [Response.data 0#32]).map Response.value) = xs := by
  induction xs with
  | nil => rfl
  | cons x xs ih =>
    have hcons : (popResponses (x :: xs) ++ [Response.data 0#32]).map Response.value =
        rbDataWord x :: (popResponses xs ++ [Response.data 0#32]).map Response.value := rfl
    simp only [hcons, drained, popped_rbDataWord, ih]

/-- A read without VALID ends the drain, which returns the samples before it (R102). -/
theorem drain_step_empty (xs : List Sample) :
    HostCall.step .drainAvailableSamples (popResponses xs ++ [Response.data 0#32]) = .done (.samples xs) := by
  have hall : ¬ (popResponses xs ++ [Response.data 0#32]).all (fun r => (popped r.value).isSome) = true := by
    simp [Response.value, popped_zero]
  simp only [HostCall.step, if_neg hall, drained_popResponses]

/-- A drain that has popped `xs` pops the unread samples one by one, then finds the buffer empty (R236). -/
theorem System.moves_drain {s : State} (ys : List Sample) (hs : s.RingInv) (hunread : s.unread = ys)
    (xs : List Sample) :
    System.moves ⟨s, .during .drainAvailableSamples (popResponses xs)⟩ (List.replicate (ys.length + 1) .host) =
      .next ⟨{ s with rbRidx := s.rbWidx, response := .data 0#32 }, .returned (.samples (xs ++ ys))⟩ := by
  induction ys generalizing s xs with
  | nil =>
    have hempty := hs.unread_eq_nil_iff.1 hunread
    have hlast : exec .rdRbData s = .next { s with rbRidx := s.rbWidx, response := .data 0#32 } := by
      rw [exec_rdRbData_of_empty hempty, hempty]
    rw [List.append_nil]
    exact System.moves_cons [] (System.move_call_returns (drain_step_popResponses xs) (decodeLabel_rd_rbData _) hlast
      (drain_step_empty xs))
  | cons y ys ih =>
    have hne : s.rbWidx ≠ s.rbRidx := fun hempty => by
      rw [hs.unread_eq_nil_iff.2 hempty] at hunread
      cases hunread
    have hpop := exec_rdRbData_of_nonempty hne hs.ridx_lt
    obtain ⟨rfl, hrest⟩ := List.cons.inj ((hs.unread_of_nonempty hne).symm.trans hunread)
    have hfirst : System.move ⟨s, .during .drainAvailableSamples (popResponses xs)⟩ .host =
        .next ⟨s.afterPop, .during .drainAvailableSamples (popResponses (xs ++ [s.slot s.rbRidx]))⟩ := by
      rw [← popResponses_append_singleton]
      refine System.move_call_continues (drain_step_popResponses xs) (decodeLabel_rd_rbData _) hpop
        (next := rd .rbData) ?_
      exact (congrArg _ (popResponses_append_singleton xs _)).trans (drain_step_popResponses _)
    have hdrain := ih (hs.pop hpop) hrest (xs ++ [s.slot s.rbRidx])
    rw [List.append_assoc] at hdrain
    exact (System.moves_cons _ hfirst).trans hdrain

/-- Settles O58. -/
theorem drainCallReturnsTheUnreadSamples : Obligations.DrainCallReturnsTheUnreadSamples :=
  fun _ hs => ⟨_, System.moves_drain _ hs rfl [], rfl, rfl, rfl⟩

end Sys2Proof.Machine

/-! PROOF. ACQUIRE_AND_STREAM (R294) in any interleaving with FIREs and TICKs: while no lap is counted, what the host has
sent and what is still unread are together the draws so far, and the ticks of one sequence are too few for OVR_COUNT
to come round to its first value. -/

namespace Sys2Proof.Machine

/-! ## Faults and invariants along moves -/

/-- No completing operation removes a fault (R317, R39). -/
theorem exec_faults_prefix {i : Instr} {s t : State} (h : exec i s = .next t) : s.faults <+: t.faults := by
  rcases exec_eq_next h with ⟨r, rfl⟩ | ⟨d, _, rfl⟩ | ⟨d, _, rfl⟩ | ⟨f, rfl, _⟩ | ⟨m, _, rfl⟩ | ⟨d, _, rfl⟩ |
    ⟨_, _, _, rfl⟩ | ⟨_, rfl⟩ | ⟨_, _, rfl⟩ | ⟨x, _, _, _, u, hu, rfl⟩
  · exact List.prefix_rfl
  · exact List.prefix_rfl
  · exact List.prefix_rfl
  · exact List.prefix_append _ _
  · rw [s.beginSeq_frame m]
    exact List.prefix_rfl
  · exact List.prefix_rfl
  · exact List.prefix_rfl
  · exact List.prefix_rfl
  · exact List.prefix_rfl
  · rw [tick_frame hu]

/-- A property of the block that every completing operation keeps is kept by every move. -/
theorem System.move_keeps {P : State → Prop} (hexec : ∀ i s t, P s → exec i s = .next t → P t) {y z : System} {m : Move}
    (hx : y.move m = .next z) (hy : P y.block) : P z.block := by
  rcases System.move_eq_next hx with ⟨_, hblock⟩ | ⟨_, i, b, _, _, _, hb, rfl⟩ | ⟨i, b, _, hb, rfl⟩
  · rw [hblock]
    exact hy
  · exact hexec i _ b hy hb
  · exact hexec i _ b hy hb

/-- The first of some moves, and the others after it. -/
theorem System.moves_cons_eq_next {y z : System} {m : Move} {ms : List Move} (hx : y.moves (m :: ms) = .next z) :
    ∃ u, y.move m = .next u ∧ u.moves ms = .next z := by
  simp only [System.moves] at hx
  split at hx
  · next u hu => exact ⟨u, hu, hx⟩
  · cases hx
  · cases hx

theorem System.moves_faults_prefix {y z : System} {ms : List Move} (hx : y.moves ms = .next z) :
    y.block.faults <+: z.block.faults := by
  induction ms generalizing y with
  | nil =>
    cases hx
    exact List.prefix_rfl
  | cons m ms ih =>
    obtain ⟨u, hm, hms⟩ := System.moves_cons_eq_next hx
    have hfirst : y.block.faults <+: u.block.faults :=
      System.move_keeps (P := fun b => y.block.faults <+: b.faults)
        (fun _ _ _ hs h => hs.trans (exec_faults_prefix h)) hm List.prefix_rfl
    exact hfirst.trans (ih hms)

/-! ## The draws and the stream -/

/-- The draw of a TICK (R172). -/
def Move.draw? : Move → Option Sample
  | .tick x => some x
  | .host => none
  | .fire => none
  | .reset => none

/-- Nothing runs and the buffer is empty (R366). -/
structure State.Vacant (b : State) : Prop where
  idle : b.completed = true
  empty : b.rbWidx = b.rbRidx

/-- The acquisition that began with OVR_COUNT = `ovr0` has taken the draws `xs`, and the host has sent `sent`: the draws
are counted by TICK_COUNT and bound the laps, and while no lap is counted no draw is lost (R236, R240). -/
structure State.Streaming (b : State) (ovr0 : Word) (sent xs : List Sample) : Prop where
  mode : b.mode = .acq
  count : b.tickCount.toNat = xs.length
  laps : (b.ovrCount - ovr0).toNat ≤ xs.length
  queue : b.ovrCount = ovr0 → sent ++ b.unread = sentinel :: xs

section
variable {s t : State} {ovr0 : Word} {sent xs : List Sample}

theorem State.Streaming.congr (h : s.Streaming ovr0 sent xs) (hmode : t.mode = s.mode)
    (hcount : t.tickCount = s.tickCount) (hovr : t.ovrCount = s.ovrCount) (hunread : t.unread = s.unread) :
    t.Streaming ovr0 sent xs :=
  ⟨hmode.trans h.mode, by rw [hcount, h.count], by rw [hovr]; exact h.laps, by rw [hovr, hunread]; exact h.queue⟩

/-- A response is no part of it. -/
theorem State.Streaming.respond (h : s.Streaming ovr0 sent xs) (r : Response) :
    ({ s with response := r } : State).Streaming ovr0 sent xs :=
  h.congr rfl rfl rfl (State.unread_congr rfl rfl rfl rfl rfl)

/-- An accepted BEGIN of an acquisition starts with no draw, an empty buffer and the sentinel sent (R203, R294). -/
theorem State.Vacant.streaming_begin (hs : s.Vacant) (hring : s.RingInv) (hok : (s.beginSeq .acq).result = .ok) :
    ((s.beginSeq .acq).respond .ack).Streaming s.ovrCount [sentinel] [] := by
  have hnil : s.unread = [] := hring.unread_eq_nil_iff.2 hs.empty
  have hunread : ((s.beginSeq .acq).respond .ack).unread = s.unread := by
    rw [s.beginSeq_frame .acq]
    exact State.unread_congr rfl rfl rfl rfl rfl
  have hovr : (s.beginSeq .acq).ovrCount = s.ovrCount := by rw [s.beginSeq_frame .acq]
  have hstart : (s.beginSeq .acq).mode = .acq ∧ (s.beginSeq .acq).tickCount = 0#32 := by
    rcases s.beginSeq_cases .acq with ⟨_, e⟩ | ⟨_, _, _, e⟩ | ⟨_, _, _, e⟩ | ⟨_, _, _, _, _, e⟩ <;> rw [e] at hok ⊢
    · cases hok
    · cases hok
    · exact ⟨rfl, rfl⟩
    · exact ⟨rfl, rfl⟩
  obtain ⟨hmode, hcount⟩ := hstart
  exact ⟨hmode, by simp [hcount], by simp [hovr], fun _ => by rw [hunread, hnil]; rfl⟩

/-- A FIRE touches neither the draws nor the buffer (R170). -/
theorem State.Streaming.fire (h : s.Streaming ovr0 sent xs) (hx : exec .fire s = .next t) :
    t.Streaming ovr0 sent xs := by
  obtain ⟨_, rfl⟩ := execFire_eq_next hx
  exact h.congr rfl rfl rfl (State.unread_congr rfl rfl rfl rfl rfl)

/-- A TICK takes one draw more: the push appends it to the unread samples, or counts a lap, and with fewer than 2^32
draws the laps do not come round to none (R172, R173, R235). -/
theorem State.Streaming.tick {x : Sample} (h : s.Streaming ovr0 sent xs) (hn : 2 ≤ s.params.rbN)
    (hctl : s.ControlInv) (hring : s.RingInv) (hx : exec (.tick x) s = .next t) (hfaults : t.faults = []) :
    t.Streaming ovr0 sent (xs ++ [x]) := by
  obtain ⟨hpending, _⟩ := execTick_eq_next hx
  obtain ⟨t', ht', hle, happends, hlaps⟩ :=
    pushAppendsOrLaps s x hn hring hpending (handlerFits_of_faults_nil hx hfaults) h.mode
  cases hx.symm.trans ht'
  have hlen : (xs ++ [x]).length = xs.length + 1 := List.length_append
  have hmode : t.mode = .acq := by
    obtain ⟨hmode, _⟩ := exec_rate_frame hx (by simp) (by simp)
    exact hmode.trans h.mode
  have hcount : t.tickCount.toNat = (xs ++ [x]).length := by
    rw [tickCount_of_tick hx hctl hfaults, h.count, hlen]
  rcases hle.lt_or_eq with hroom | hfull
  · obtain ⟨hunread, hovr⟩ := happends hroom
    refine ⟨hmode, hcount, ?_, fun hsame => ?_⟩
    · rw [hovr, hlen]
      exact Nat.le_succ_of_le h.laps
    · rw [hunread, ← List.append_assoc, h.queue (hovr.symm.trans hsame), List.cons_append]
  · obtain ⟨_, hovr⟩ := hlaps hfull
    have hbound : xs.length + 1 < 2 ^ 32 := hlen ▸ hcount ▸ t.tickCount.isLt
    have hone : (t.ovrCount - ovr0).toNat = (s.ovrCount - ovr0).toNat + 1 := by
      have hold := h.laps
      rw [hovr]
      bv_omega
    refine ⟨hmode, hcount, by rw [hone, hlen]; exact Nat.succ_le_succ h.laps, fun hsame => ?_⟩
    rw [hsame, BitVec.sub_self] at hone
    cases hone

/-- A pop moves the oldest unread sample to the host (R236). -/
theorem State.Streaming.pop (h : s.Streaming ovr0 sent xs) (hring : s.RingInv) (hne : s.rbWidx ≠ s.rbRidx) :
    s.afterPop.Streaming ovr0 (sent ++ [s.slot s.rbRidx]) xs := by
  refine ⟨h.mode, h.count, h.laps, fun hsame => ?_⟩
  rw [List.append_assoc, List.singleton_append, ← hring.unread_of_nonempty hne]
  exact h.queue hsame

/-- With nothing left unread the host has sent every draw. -/
theorem State.Streaming.sent_of_empty (h : s.Streaming ovr0 sent xs) (hring : s.RingInv)
    (hempty : s.rbWidx = s.rbRidx) (hovr : s.ovrCount = ovr0) : sent ++ [sentinel] = frame xs := by
  have hqueue := h.queue hovr
  rw [hring.unread_eq_nil_iff.2 hempty, List.append_nil] at hqueue
  rw [hqueue]
  rfl

end

/-- The sequence is over and has taken the draws `xs`; were `ovr1` the OVR_COUNT read at the start, the host has sent
them framed (R292, R294). -/
structure HostState.Framed (h : HostState) (b : State) (ovr1 : Word) (xs : List Sample) : Prop where
  idle : b.completed = true
  count : b.tickCount.toNat = xs.length
  stream : ovr1 = h.ovr0 → h.stream = frame xs

/-! ## The phases of ACQUIRE_AND_STREAM -/

/-- What ACQUIRE_AND_STREAM has reached when the host stands at a phase, after the draws `xs` (R294). Of a rejected BEGIN
nothing is said, and the phases of other procedures are never entered. -/
def HostPhase.Progress (h : HostState) (b : State) (xs : List Sample) : HostPhase → Prop
  | .discard | .ovrBefore => b.Vacant ∧ xs = [] ∧ h.stream = []
  | .acqFreq | .acqDur | .acqCmd => b.Vacant ∧ xs = [] ∧ h.stream = [sentinel] ∧ h.ovr0 = b.ovrCount
  | .checkBegin => b.result = .ok → b.Streaming h.ovr0 h.stream xs
  | .drain | .poll => b.Streaming h.ovr0 h.stream xs
  | .finalDrain => b.completed = true ∧ b.Streaming h.ovr0 h.stream xs
  | .ovrAfter => h.Framed b b.ovrCount xs
  | .finished => h.Framed b h.ovr1 xs
  | .rejected => True
  | .excFreq | .excDur | .excCmd | .excWait | .settle | .calls | .malformed => False

/-- An event happens only while a sequence runs, and then only a streaming phase has something to keep. -/
theorem HostPhase.Progress.event {p : HostPhase} {h : HostState} {s t : State} {xs xs' : List Sample}
    (hp : p.Progress h s xs) (hrun : s.completed = false) (hresult : t.result = s.result)
    (hstreaming : s.Streaming h.ovr0 h.stream xs → t.Streaming h.ovr0 h.stream xs') : p.Progress h t xs' := by
  have hnot : s.completed ≠ true := Bool.eq_false_iff.1 hrun
  cases p with
  | drain | poll => exact hstreaming hp
  | checkBegin => exact fun hok => hstreaming (hp (hresult.symm.trans hok))
  | rejected => trivial
  | discard | ovrBefore | acqFreq | acqDur | acqCmd =>
    obtain ⟨hvacant, _⟩ := hp
    exact absurd hvacant.idle hnot
  | finalDrain =>
    obtain ⟨hidle, _⟩ := hp
    exact absurd hidle hnot
  | ovrAfter | finished => exact absurd (HostState.Framed.idle hp) hnot
  | excFreq | excDur | excCmd | excWait | settle | calls | malformed => exact hp.elim

/-- The block and its host in ACQUIRE_AND_STREAM after the draws `xs`. -/
structure System.Acquiring (y : System) (xs : List Sample) : Prop where
  slots : 2 ≤ y.block.params.rbN
  control : y.block.ControlInv
  ring : y.block.RingInv
  progress : y.host.phase.Progress y.host y.block xs

/-- The launch premise is the start (R366). -/
theorem State.CleanIdle.acquiring {s : State} (hs : s.CleanIdle) (hn : 2 ≤ s.params.rbN) (hctl : s.ControlInv)
    (hring : s.RingInv) (f d : Word) : System.Acquiring ⟨s, .acquire f d⟩ [] := by
  obtain ⟨_, hidle, _, _, hempty⟩ := hs
  exact ⟨hn, hctl, hring, ⟨hidle, hempty⟩, rfl, rfl⟩

/-! ## The host's turn at each phase -/

/-- RESULT's code 0 is OK (R96). -/
theorem CmdResult.code_eq_zero_iff {r : CmdResult} : r.code = 0#2 ↔ r = .ok := by
  cases r <;> decide

/-- The one system that a host's transaction can lead to. -/
theorem System.eq_of_move_host {y z : System} {line : AsmLine} {i : Instr} {b : State} (hx : y.move .host = .next z)
    (hl : y.host.issue = some line) (hd : decodeLabel y.block.params.itcBase (assemble line) = .instr i)
    (hb : exec i y.block = .next b) : z = { block := b, host := y.host.receive b.response } :=
  Host.Outcome.next.inj (hx.symm.trans (System.move_host hl hd hb))

/-- What a read of RB_DATA by the host leads to (R233). -/
theorem System.move_rdRbData_cases {y z : System} (hx : y.move .host = .next z) (hl : y.host.issue = some (rd .rbData))
    (hring : y.block.RingInv) :
    (y.block.rbWidx = y.block.rbRidx ∧
      z = { block := { y.block with response := .data 0#32 }, host := y.host.receive (.data 0#32) }) ∨
    (y.block.rbWidx ≠ y.block.rbRidx ∧
      z = { block := y.block.afterPop, host := y.host.receive (.data (rbDataWord (y.block.slot y.block.rbRidx))) }) := by
  by_cases hempty : y.block.rbWidx = y.block.rbRidx
  · exact .inl ⟨hempty, System.eq_of_move_host hx hl (decodeLabel_rd_rbData _) (exec_rdRbData_of_empty hempty)⟩
  · exact .inr ⟨hempty, System.eq_of_move_host hx hl (decodeLabel_rd_rbData _)
      (exec_rdRbData_of_nonempty hempty hring.ridx_lt)⟩

/-- Both drains of the acquisition emit a popped sample and read on (R293, R294). -/
theorem HostState.receive_sample {h : HostState} (hphase : h.phase = .drain ∨ h.phase = .finalDrain) (x : Sample) :
    h.receive (.data (rbDataWord x)) = h.emit x := by
  rcases hphase with hphase | hphase <;> simp only [HostState.receive, hphase, Response.value, popped_rbDataWord]

theorem exec_rdStatus (s : State) : exec .rdStatus s = .next { s with response := .data s.statusWord } := rfl

section
variable {y z : System} {xs : List Sample} (hx : y.move .host = .next z)
  (hp : y.host.phase.Progress y.host y.block xs)
include hx hp

/-- The buffer is empty at once, so nothing is discarded. -/
theorem System.progress_discard (hphase : y.host.phase = .discard) : z.host.phase.Progress z.host z.block xs := by
  rw [hphase] at hp
  obtain ⟨hvacant, hxs, hstream⟩ := hp
  obtain rfl := System.eq_of_move_host hx (by simp only [HostState.issue, hphase]) (decodeLabel_rd_rbData _)
    (exec_rdRbData_of_empty hvacant.empty)
  simp only [HostState.receive, hphase, Response.value, popped_zero]
  exact ⟨⟨hvacant.idle, hvacant.empty⟩, hxs, hstream⟩

/-- The first OVR_COUNT read, with the opening sentinel. -/
theorem System.progress_ovrBefore (hphase : y.host.phase = .ovrBefore) :
    z.host.phase.Progress z.host z.block xs := by
  rw [hphase] at hp
  obtain ⟨hvacant, hxs, hstream⟩ := hp
  obtain rfl := System.eq_of_move_host hx (by simp only [HostState.issue, hphase]) (decodeLabel_rd_ovrCount _) rfl
  simp only [HostState.receive, hphase]
  exact ⟨⟨hvacant.idle, hvacant.empty⟩, hxs, congrArg (· ++ [sentinel]) hstream, rfl⟩

theorem System.progress_acqFreq (hphase : y.host.phase = .acqFreq) : z.host.phase.Progress z.host z.block xs := by
  rw [hphase] at hp
  obtain ⟨hvacant, hxs, hstream, hovr⟩ := hp
  obtain rfl := System.eq_of_move_host hx (by simp only [HostState.issue, hphase])
    (decodeLabel_wr_argFreq _ y.host.acqFreq) rfl
  simp only [HostState.receive, hphase]
  exact ⟨⟨hvacant.idle, hvacant.empty⟩, hxs, hstream, hovr⟩

theorem System.progress_acqDur (hphase : y.host.phase = .acqDur) : z.host.phase.Progress z.host z.block xs := by
  rw [hphase] at hp
  obtain ⟨hvacant, hxs, hstream, hovr⟩ := hp
  obtain rfl := System.eq_of_move_host hx (by simp only [HostState.issue, hphase])
    (decodeLabel_wr_argDur _ y.host.acqDur) rfl
  simp only [HostState.receive, hphase]
  exact ⟨⟨hvacant.idle, hvacant.empty⟩, hxs, hstream, hovr⟩

/-- The BEGIN, which may be accepted or not: the host learns it from STATUS. -/
theorem System.progress_acqCmd (hring : y.block.RingInv) (hphase : y.host.phase = .acqCmd) :
    z.host.phase.Progress z.host z.block xs := by
  rw [hphase] at hp
  obtain ⟨hvacant, hxs, hstream, hovr⟩ := hp
  obtain rfl := System.eq_of_move_host hx (by simp only [HostState.issue, hphase]) (decodeLabel_begin_acq _) rfl
  simp only [HostState.receive, hphase, HostPhase.Progress, hstream, hovr, hxs]
  exact hvacant.streaming_begin hring

/-- The host goes on to the loop exactly when STATUS reports OK. -/
theorem System.progress_checkBegin (hphase : y.host.phase = .checkBegin) :
    z.host.phase.Progress z.host z.block xs := by
  rw [hphase] at hp
  obtain rfl := System.eq_of_move_host hx (by simp only [HostState.issue, hphase]) (decodeLabel_rd_status _)
    (exec_rdStatus _)
  simp only [HostState.receive, hphase, Response.value, resultField_statusWord]
  split
  · next hcode => exact (hp (CmdResult.code_eq_zero_iff.1 hcode)).respond _
  · trivial

/-- The drain of the loop sends the oldest unread sample, or finds none and polls. -/
theorem System.progress_drain (hring : y.block.RingInv) (hphase : y.host.phase = .drain) :
    z.host.phase.Progress z.host z.block xs := by
  rw [hphase] at hp
  rcases System.move_rdRbData_cases hx (by simp only [HostState.issue, hphase]) hring with
    ⟨_, rfl⟩ | ⟨hne, rfl⟩
  · simp only [HostState.receive, hphase, Response.value, popped_zero]
    exact State.Streaming.respond hp _
  · rw [HostState.receive_sample (.inl hphase), HostState.emit, hphase]
    exact State.Streaming.pop hp hring hne

/-- The loop drains again, or leaves for the final drain when COMPLETED = 1. -/
theorem System.progress_poll (hphase : y.host.phase = .poll) : z.host.phase.Progress z.host z.block xs := by
  rw [hphase] at hp
  obtain rfl := System.eq_of_move_host hx (by simp only [HostState.issue, hphase]) (decodeLabel_rd_status _)
    (exec_rdStatus _)
  simp only [HostState.receive, hphase, Response.value, isDone_statusWord]
  split
  · next hidle => exact ⟨hidle, State.Streaming.respond hp _⟩
  · exact State.Streaming.respond hp _

/-- The final drain sends the oldest unread sample, or finds none and sends the closing sentinel. -/
theorem System.progress_finalDrain (hring : y.block.RingInv) (hphase : y.host.phase = .finalDrain) :
    z.host.phase.Progress z.host z.block xs := by
  rw [hphase] at hp
  obtain ⟨hidle, hstreaming⟩ := hp
  rcases System.move_rdRbData_cases hx (by simp only [HostState.issue, hphase]) hring with
    ⟨hempty, rfl⟩ | ⟨hne, rfl⟩
  · simp only [HostState.receive, hphase, Response.value, popped_zero]
    exact ⟨hidle, hstreaming.count, hstreaming.sent_of_empty hring hempty⟩
  · rw [HostState.receive_sample (.inr hphase), HostState.emit, hphase]
    exact ⟨hidle, hstreaming.pop hring hne⟩

/-- The second OVR_COUNT read ends the procedure. -/
theorem System.progress_ovrAfter (hphase : y.host.phase = .ovrAfter) : z.host.phase.Progress z.host z.block xs := by
  rw [hphase] at hp
  obtain ⟨hidle, hcount, hstream⟩ := hp
  obtain rfl := System.eq_of_move_host hx (by simp only [HostState.issue, hphase]) (decodeLabel_rd_ovrCount _) rfl
  simp only [HostState.receive, hphase]
  exact ⟨hidle, hcount, hstream⟩

/-- A host that is over does nothing. -/
theorem System.progress_over (ho : y.host.over = true) : z.host.phase.Progress z.host z.block xs := by
  cases (System.move_host_of_over ho).symm.trans hx
  exact hp

/-- The host's turn keeps what the procedure has reached. -/
theorem System.progress_host (hring : y.block.RingInv) : z.host.phase.Progress z.host z.block xs := by
  cases hphase : y.host.phase with
  | discard => exact System.progress_discard hx hp hphase
  | ovrBefore => exact System.progress_ovrBefore hx hp hphase
  | acqFreq => exact System.progress_acqFreq hx hp hphase
  | acqDur => exact System.progress_acqDur hx hp hphase
  | acqCmd => exact System.progress_acqCmd hx hp hring hphase
  | checkBegin => exact System.progress_checkBegin hx hp hphase
  | drain => exact System.progress_drain hx hp hring hphase
  | poll => exact System.progress_poll hx hp hphase
  | finalDrain => exact System.progress_finalDrain hx hp hring hphase
  | ovrAfter => exact System.progress_ovrAfter hx hp hphase
  | finished | rejected => exact System.progress_over hx hp (by simp only [HostState.over, hphase])
  | excFreq | excDur | excCmd | excWait | settle | calls | malformed =>
    rw [hphase] at hp
    exact hp.elim

end

/-! ## Any interleaving -/

/-- An event's turn: the operation on the block, the host as it was. -/
theorem System.after_event_eq_next {y z : System} {i : Instr} (hx : y.after (fun _ => y.host) i = .next z) :
    exec i y.block = .next z.block ∧ z.host = y.host := by
  obtain ⟨b, hb, rfl⟩ := System.after_eq_next hx
  exact ⟨hb, rfl⟩

theorem System.Acquiring.move {y z : System} {m : Move} {xs : List Sample} (h : y.Acquiring xs)
    (hreset : m ≠ .reset) (hx : y.move m = .next z) (hfaults : z.block.faults = []) :
    z.Acquiring (xs ++ m.draw?.toList) := by
  obtain ⟨hn, hctl, hring, hp⟩ := h
  obtain ⟨hn', hring'⟩ : 2 ≤ z.block.params.rbN ∧ z.block.RingInv :=
    System.move_keeps (P := fun b => 2 ≤ b.params.rbN ∧ b.RingInv)
      (fun _ _ _ ⟨hn, hs⟩ h => ⟨exec_params h ▸ hn, hs.exec hn h⟩) hx ⟨hn, hring⟩
  refine ⟨hn', System.move_keeps (fun _ _ _ hs h => hs.exec h) hx hctl, hring', ?_⟩
  cases m with
  | host =>
    rw [Move.draw?, Option.toList_none, List.append_nil]
    exact System.progress_host hx hp hring
  | fire =>
    obtain ⟨hfire, hhost⟩ := System.after_event_eq_next hx
    obtain ⟨harmed, _⟩ := execFire_eq_next hfire
    obtain ⟨hresult, _⟩ := exec_outcome_frame hfire (by simp) (by simp) (by simp) (by simp)
    rw [Move.draw?, Option.toList_none, List.append_nil, hhost]
    exact hp.event (hctl.running_iff.2 (.inl harmed)) hresult fun hs => hs.fire hfire
  | tick x =>
    obtain ⟨htick, hhost⟩ := System.after_event_eq_next hx
    obtain ⟨hpending, _⟩ := execTick_eq_next htick
    obtain ⟨hresult, _⟩ := exec_outcome_frame htick (by simp) (by simp) (by simp) (by simp)
    rw [hhost]
    exact hp.event (hctl.running_iff.2 (.inr hpending)) hresult fun hs => hs.tick hn hctl hring htick hfaults
  | reset => exact absurd rfl hreset

theorem System.Acquiring.moves {y z : System} {ms : List Move} {xs : List Sample} (h : y.Acquiring xs)
    (hreset : .reset ∉ ms) (hx : y.moves ms = .next z) (hfaults : z.block.faults = []) :
    z.Acquiring (xs ++ ms.filterMap Move.draw?) := by
  induction ms generalizing y xs with
  | nil =>
    cases hx
    rw [List.filterMap_nil, List.append_nil]
    exact h
  | cons m ms ih =>
    obtain ⟨hm, hms⟩ := not_or.1 (List.mem_cons.not.1 hreset)
    obtain ⟨u, hu, hrest⟩ := System.moves_cons_eq_next hx
    have hfaults' : u.block.faults = [] := List.prefix_nil.1 (hfaults ▸ System.moves_faults_prefix hrest)
    have hdraws : xs ++ (m :: ms).filterMap Move.draw? = xs ++ m.draw?.toList ++ ms.filterMap Move.draw? := by
      rw [List.append_assoc]
      cases hd : m.draw? <;> simp [hd]
    rw [hdraws]
    exact ih (h.move (Ne.symm hm) hu hfaults') hms hrest

/-- Settles O56: `System.Acquiring` holds at the launch and is kept by every move, and when the host is finished it says
that the sequence is over and, the two OVR_COUNT reads being equal, that the draws were sent framed. -/
theorem acquireStreamsEverySample : Obligations.AcquireStreamsEverySample := by
  intro s f d ms z hn hctl hring hclean hreset hx hphase hfaults hovr draws
  obtain ⟨_, hcontrol, _, hp⟩ := (hclean.acquiring hn hctl hring f d).moves hreset hx hfaults
  rw [hphase] at hp
  obtain ⟨hidle, hcount, hstream⟩ : z.host.Framed z.block z.host.ovr1 (ms.filterMap Move.draw?) := hp
  have hdraws : draws = ms.filterMap Move.draw? :=
    List.filterMap_congr fun m _ => by cases m <;> rfl
  rw [hdraws]
  exact ⟨hstream hovr, by rw [← hcount, hcontrol.idle_count hidle]⟩

end Sys2Proof.Machine

/-! PROOF. The exceptions (60_exceptions.md): the four outcomes of a CMD write in the order of the checks, the overrun of
a TICK, what no step takes away, and the order of a FIRE against a bus access. -/

namespace Sys2Proof.Machine

/-! ## The outcomes of a CMD write (R310, R320) -/

/-- BEGIN ends BUSY while a sequence runs (R311). -/
theorem State.beginSeq_outcome_of_running {s : State} (m : Mode) (hrun : s.completed = false) :
    (s.beginSeq m).result = .busy ∧ (s.beginSeq m).cfgCause = .none := by
  rw [State.beginSeq_of_running m hrun]
  exact ⟨rfl, rfl⟩

section
variable {s : State} {m : Mode} (hidle : s.completed = true)
include hidle

/-- BEGIN in idle ends CFG_ERR with DERIVE's cause (R312). -/
theorem State.beginSeq_outcome_of_err {c : CfgCause} (hd : derive s.params m s.argFreq s.argDur = .err c) :
    (s.beginSeq m).result = .cfgErr ∧ (s.beginSeq m).cfgCause = c := by
  rw [State.beginSeq_of_derive_err hidle hd]
  exact ⟨rfl, rfl⟩

/-- BEGIN in idle ends OK when DERIVE gives the values (R310). -/
theorem State.beginSeq_outcome_of_ok {cpt tt : Word} (hd : derive s.params m s.argFreq s.argDur = .ok cpt tt) :
    (s.beginSeq m).result = .ok ∧ (s.beginSeq m).cfgCause = .none := by
  rw [State.beginSeq_of_derive_ok hidle hd, State.commit_of_idle hidle]
  exact ⟨rfl, rfl⟩

end

/-- A CMD write of 1 or 2 is the BEGIN of its mode (R98, R201, R202). -/
theorem exec_decodeCommand_beginCode (s : State) (m : Mode) :
    exec (decodeCommand (beginCode m)) s = .next ((s.beginSeq m).respond .ack) := by
  cases m <;> rfl

/-- A CFG_ERR of BEGIN names one of the four causes (R97). -/
theorem State.beginSeq_cause_range (s : State) (m : Mode) (h : (s.beginSeq m).result = .cfgErr) :
    1 ≤ (s.beginSeq m).cfgCause.code.toNat ∧ (s.beginSeq m).cfgCause.code.toNat ≤ 4 :=
  CfgCause.code_range_of_ne_none fun hnone => (s.beginSeq_outcomeInv m).1 hnone h

/-- Settles O20: DATA is illegal or the code of a mode; a BEGIN is busy, or DERIVE fails, or it succeeds. -/
theorem commandEndsWithOneOutcome : Obligations.CommandEndsWithOneOutcome := by
  intro s data
  rw [decodeTxn_of_commandWrite]
  by_cases hillegal : data ≠ 1#32 ∧ data ≠ 2#32
  · have hwf : (Instr.cmdIllegal data).wf = true := by simp [Instr.wf, hillegal]
    rw [Laws.decodeCommand_of_illegal hwf, if_pos hillegal]
    exact ⟨_, rfl, rfl, rfl, nofun⟩
  obtain ⟨m, rfl, hm⟩ : ∃ m, data = beginCode m ∧ (if data = 1#32 then Mode.exc else .acq) = m := by
    by_cases hexc : data = 1#32
    · exact ⟨.exc, hexc, if_pos hexc⟩
    · have hacq : data = 2#32 := not_not.1 fun hne => hillegal ⟨hexc, hne⟩
      exact ⟨.acq, hacq, if_neg hexc⟩
  have hfaults : (s.beginSeq m).faults = s.faults := by rw [s.beginSeq_frame m]
  refine ⟨_, exec_decodeCommand_beginCode s m, hfaults, ?_, s.beginSeq_cause_range m⟩
  rw [if_neg hillegal, hm]
  cases hidle : s.completed with
  | false =>
    obtain ⟨hresult, hcause⟩ := State.beginSeq_outcome_of_running m hidle
    exact Prod.ext hresult hcause
  | true =>
    cases hd : derive s.params m s.argFreq s.argDur with
    | err c =>
      obtain ⟨hresult, hcause⟩ := State.beginSeq_outcome_of_err hidle hd
      exact Prod.ext hresult hcause
    | ok cpt tt =>
      obtain ⟨hresult, hcause⟩ := State.beginSeq_outcome_of_ok hidle hd
      exact Prod.ext hresult hcause

/-! ## The overrun (R316) -/

/-- A pending TICK whose handler does not fit takes the fault (R316). -/
theorem exec_tick_of_misfit {s : State} (x : Sample) (hp : s.trigPending = true)
    (hmisfit : handlerFits s.params s.cpt = false) : exec (.tick x) s = .next (s.raise (.tickOverrun s.cpt)) := by
  simp only [exec, execTick, hp, hmisfit, if_true, Bool.false_eq_true, if_false]

/-- Settles O32. -/
theorem overrunTickRecordsTheFaultOnly : Obligations.OverrunTickRecordsTheFaultOnly :=
  fun _ x => ⟨exec_tick_of_misfit x, exec_tick_of_not_pending x⟩

/-! ## What no step takes away (R317, R39, R41) -/

/-- Settles O39: every completing operation keeps both, and neither looks at what else a step changes. -/
theorem faultsOnlyGrowAndParamsStay : Obligations.FaultsOnlyGrowAndParamsStay := fun s _ h =>
  step_keeps (P := fun u => u.params = s.params ∧ s.faults <+: u.faults) (fun _ _ _ _ hu => hu)
    (fun _ _ _ ⟨hparams, hfaults⟩ hexec =>
      ⟨(exec_params hexec).trans hparams, hfaults.trans (exec_faults_prefix hexec)⟩)
    h ⟨rfl, List.prefix_rfl⟩

/-! ## FIRE against a bus access (R321) -/

/-- A bus access leaves the trigger of a running sequence armed: a BEGIN is busy (R180, R204). -/
theorem exec_trigArmed_of_running {i : Instr} {s t : State} (h : exec i s = .next t) (hrun : s.completed = false)
    (hreset : i ≠ .reset) (hfire : i ≠ .fire) (htick : ∀ x, i ≠ .tick x) : t.trigArmed = s.trigArmed := by
  by_cases hbegin : i = .beginExc ∨ i = .beginAcq
  · obtain ⟨m, rfl⟩ := exec_begin_eq_next hbegin h
    rw [State.beginSeq_of_running m hrun]
    rfl
  · obtain ⟨hexc, hacq⟩ := not_or.1 hbegin
    obtain ⟨_, _, hcontrol, _⟩ := eachFieldHasItsWriters i s t h hreset
    obtain ⟨_, _, _, _, hevent⟩ := hcontrol hexc hacq
    obtain ⟨_, _, htrigger⟩ := hevent htick
    obtain ⟨harmed, _⟩ := htrigger hfire
    exact harmed

/-- A busy BEGIN does not look at the trigger (R204). -/
theorem State.beginSeq_expired {s : State} (m : Mode) (hrun : s.completed = false) :
    ((s.expire.respond .none).beginSeq m).respond .ack = ((s.beginSeq m).respond .ack).expire := by
  rw [State.beginSeq_of_running m hrun, State.beginSeq_of_running (s := s.expire.respond .none) m hrun]
  rfl

/-- The pop does not look at the trigger (R233). -/
theorem execRdRbData_expired {s t : State} (h : execRdRbData s = .next t) :
    execRdRbData (s.expire.respond .none) = .next t.expire := by
  rcases execRdRbData_eq_next h with ⟨hempty, rfl⟩ | ⟨hne, hslot, rfl⟩
  · exact exec_rdRbData_of_empty (s := s.expire.respond .none) hempty
  · exact exec_rdRbData_of_nonempty (s := s.expire.respond .none) hne hslot

/-- A bus access after the trigger's expiry gives what it gives before it, with the trigger expired. -/
theorem exec_expired {i : Instr} {s t : State} (h : exec i s = .next t) (hrun : s.completed = false)
    (hreset : i ≠ .reset) (hfire : i ≠ .fire) (htick : ∀ x, i ≠ .tick x) :
    exec i (s.expire.respond .none) = .next t.expire := by
  cases i
  case reset => exact absurd rfl hreset
  case fire => exact absurd rfl hfire
  case tick x => exact absurd rfl (htick x)
  case beginExc =>
    cases h
    exact congrArg Host.Outcome.next (State.beginSeq_expired .exc hrun)
  case beginAcq =>
    cases h
    exact congrArg Host.Outcome.next (State.beginSeq_expired .acq hrun)
  case rdRbData => exact execRdRbData_expired h
  all_goals
    cases h
    rfl

/-- Settles O45. -/
theorem fireCommutesWithBusAccesses : Obligations.FireCommutesWithBusAccesses := by
  intro i s t hrun harmed hreset hfire htick h
  have hstill : t.trigArmed = true := (exec_trigArmed_of_running h hrun hreset hfire htick).trans harmed
  exact ⟨exec_fire_of_armed hstill, _, exec_fire_of_armed harmed, exec_expired h hrun hreset hfire htick⟩

end Sys2Proof.Machine

/-! PROOF. RESET and the reset state (70_reset_and_hazards.md): the reset values, CLEAN_IDLE, and the invariants at the
start of every run. -/

namespace Sys2Proof.Machine

/-! ## RESET (R350) -/

/-- STATUS reads 1 after RESET: COMPLETED, and every other field 0 (R94, R350). -/
theorem State.resetBlock_statusWord (s : State) : s.resetBlock.statusWord = 0x00000001#32 := by
  have havail : s.resetBlock.avail = false := rfl
  simp only [State.statusWord, havail, State.resetBlock_cfgCause, State.resetBlock_result, State.resetBlock_mode,
    State.resetBlock_completed]
  decide

/-- Settles O33: RESET's next state is `State.resetBlock`, whose fields are the reset values. -/
theorem resetGivesTheResetValues : Obligations.ResetGivesTheResetValues := fun s =>
  ⟨s.resetBlock, rfl, rfl, rfl, rfl, rfl, rfl, rfl, rfl, rfl, rfl, rfl, rfl, rfl, rfl, rfl, rfl, rfl,
    s.resetBlock_statusWord, rfl, rfl, rfl⟩

/-- Of CLEAN_IDLE only the empty FAULTS is not RESET's doing (R350, R366). -/
theorem State.resetBlock_cleanIdle_iff (s : State) : s.resetBlock.CleanIdle ↔ s.faults = [] := by
  constructor
  · rintro ⟨hfaults, _⟩
    exact hfaults
  · exact fun hfaults => ⟨hfaults, rfl, rfl, rfl, rfl⟩

/-- Settles O34. -/
theorem resetRestoresCleanIdle : Obligations.ResetRestoresCleanIdle := fun s =>
  ⟨s.resetBlock, rfl, s.resetBlock_cleanIdle_iff, fun _ => Iff.rfl⟩

/-! ## The reset state -/

section
variable (p : Params)

theorem State.resetWith_controlInv : (State.resetWith p).ControlInv := .of_idle rfl rfl rfl rfl

/-- The ring buffer is at reset as it is after RESET: empty, with both indices at slot 0. -/
theorem State.resetWith_ringInv (hn : 1 ≤ p.rbN) : (State.resetWith p).RingInv :=
  (State.RingInv.resetBlock (State.resetWith p) hn).congr rfl rfl rfl rfl

theorem State.resetWith_outputInv : (State.resetWith p).OutputInv :=
  (State.resetWith p).outputInv_iff.2 (drivesOnlyPerm_zero p.perm)

/-- OK with no cause (R97). -/
theorem State.resetWith_outcomeInv : (State.resetWith p).OutcomeInv :=
  iff_of_true rfl (show CmdResult.ok ≠ .cfgErr by decide)

theorem State.resetWith_cleanIdle : (State.resetWith p).CleanIdle := ⟨rfl, rfl, rfl, rfl, rfl⟩

end

/-- Settles O38. -/
theorem resetStateMeetsTheInvariants : Obligations.ResetStateMeetsTheInvariants :=
  ⟨fun p hn => ⟨State.resetWith_controlInv p, State.resetWith_ringInv p hn, State.resetWith_outputInv p,
    State.resetWith_outcomeInv p, State.resetWith_cleanIdle p⟩, rfl, by decide⟩

end Sys2Proof.Machine

/-! PROOF. The end of an ACQUIRE_AND_STREAM run (R364): the host leaves the loop only when STATUS shows COMPLETED = 1, an
idle block stays idle until the next BEGIN, and the closing sentinel follows a read that found the buffer empty. -/

namespace Sys2Proof.Machine

/-! ## Where a run has ended nothing moves any more -/

/-- An event that the block refuses. -/
theorem System.after_of_refused {y : System} {h : State → HostState} {i : Instr} {r : Refusal}
    (hi : exec i y.block = .refused r) : y.after h i = .refused r := by
  simp only [System.after, hi]

theorem System.RunEnd.move_fire {y : System} (hy : y.RunEnd) : y.move .fire = .refused .fireNotEnabled := by
  obtain ⟨_, _, harmed, _⟩ := hy
  exact System.after_of_refused (exec_fire_of_disarmed harmed)

theorem System.RunEnd.move_tick {y : System} (hy : y.RunEnd) (x : Sample) :
    y.move (.tick x) = .refused .tickNotEnabled := by
  obtain ⟨_, _, _, hpending, _⟩ := hy
  exact System.after_of_refused (exec_tick_of_not_pending x hpending)

theorem System.RunEnd.move_host {y : System} (hy : y.RunEnd) : y.move .host = .next y := by
  obtain ⟨hover, _⟩ := hy
  exact System.move_host_of_over hover

/-- A move that completes at a run's end, other than RESET, changes nothing. -/
theorem System.RunEnd.eq_of_move {y z : System} {m : Move} (hy : y.RunEnd) (hreset : m ≠ .reset)
    (hx : y.move m = .next z) : z = y := by
  cases m with
  | host =>
    cases hy.move_host.symm.trans hx
    rfl
  | fire => cases hy.move_fire.symm.trans hx
  | tick x => cases (hy.move_tick x).symm.trans hx
  | reset => exact absurd rfl hreset

theorem System.RunEnd.eq_of_moves {y z : System} {ms : List Move} (hy : y.RunEnd) (hreset : .reset ∉ ms)
    (hx : y.moves ms = .next z) : z = y := by
  induction ms with
  | nil =>
    cases hx
    rfl
  | cons m ms ih =>
    obtain ⟨hm, hms⟩ := not_or.1 (List.mem_cons.not.1 hreset)
    obtain ⟨u, hu, hrest⟩ := System.moves_cons_eq_next hx
    obtain rfl := hy.eq_of_move (Ne.symm hm) hu
    exact ih hms hrest

/-- A run that is at its end from the start. -/
theorem System.RunEnd.runEndsIn_nil {y : System} (hy : y.RunEnd) : y.RunEndsIn [] y :=
  ⟨rfl, hy, fun _ hns hne => absurd (List.prefix_nil.1 hns) hne⟩

/-- A move from where the run has not ended comes before the rest of the run. -/
theorem System.RunEndsIn.cons {y u z : System} {m : Move} {ns : List Move} (h : u.RunEndsIn ns z)
    (hy : ¬ y.RunEnd) (hu : y.move m = .next u) : y.RunEndsIn (m :: ns) z := by
  obtain ⟨hns, hz, hfirst⟩ := h
  refine ⟨(System.moves_cons ns hu).trans hns, hz, fun ls hls hne v hv => ?_⟩
  cases ls with
  | nil =>
    cases hv
    exact hy
  | cons l ls =>
    obtain ⟨rfl, hprefix⟩ := List.cons_prefix_cons.1 hls
    exact hfirst ls hprefix (fun heq => hne (congrArg _ heq)) v ((System.moves_cons ls hu).symm.trans hv)

/-- Moves without RESET to a state with the four items: some first part of them reaches that state as the first with
the items. -/
theorem System.exists_runEndsIn {y z : System} {ms : List Move} (hreset : .reset ∉ ms) (hx : y.moves ms = .next z)
    (hz : z.RunEnd) : ∃ ns, ns <+: ms ∧ y.RunEndsIn ns z := by
  induction ms generalizing y with
  | nil =>
    cases hx
    exact ⟨[], List.prefix_rfl, hz.runEndsIn_nil⟩
  | cons m ms ih =>
    by_cases hy : y.RunEnd
    · obtain rfl := hy.eq_of_moves hreset hx
      exact ⟨[], List.nil_prefix, hy.runEndsIn_nil⟩
    · obtain ⟨u, hu, hrest⟩ := System.moves_cons_eq_next hx
      obtain ⟨ns, hprefix, hns⟩ := ih (fun hms => hreset (List.mem_cons_of_mem m hms)) hrest
      exact ⟨m :: ns, List.cons_prefix_cons.2 ⟨rfl, hprefix⟩, hns.cons hy hu⟩

/-! ## The last phases of the host -/

/-- The phases after the loop of ACQUIRE_AND_STREAM (R294). -/
def HostPhase.afterLoop : HostPhase → Bool
  | .finalDrain | .ovrAfter | .finished => true
  | .excFreq | .excDur | .excCmd | .excWait | .settle | .discard | .ovrBefore | .acqFreq | .acqDur | .acqCmd
  | .checkBegin | .drain | .poll | .calls | .malformed | .rejected => false

/-- A response brings the host past the loop only from the poll or from a phase past it. -/
theorem HostState.afterLoop_of_receive {h : HostState} {r : Response} (hr : (h.receive r).phase.afterLoop = true) :
    h.phase = .poll ∨ h.phase.afterLoop = true := by
  cases hphase : h.phase with
  | poll => exact .inl rfl
  | finalDrain | ovrAfter | finished => exact .inr rfl
  | excFreq | excDur | excCmd | settle | ovrBefore | acqFreq | acqDur | acqCmd | malformed | rejected =>
    simp [HostState.receive, hphase, HostPhase.afterLoop] at hr
  | excWait | discard | checkBegin | drain =>
    simp only [HostState.receive, hphase] at hr
    split at hr <;> simp [HostState.emit, hphase, HostPhase.afterLoop] at hr
  | calls =>
    have hcalls : (h.callReceive r).phase = h.phase := by
      unfold HostState.callReceive
      split
      · rfl
      · split <;> rfl
    simp [HostState.receive, hphase, hcalls, HostPhase.afterLoop] at hr

/-- So does a turn of the host. -/
theorem System.afterLoop_of_move_host {y z : System} (hx : y.move .host = .next z)
    (hz : z.host.phase.afterLoop = true) : y.host.phase = .poll ∨ y.host.phase.afterLoop = true := by
  simp only [System.move] at hx
  split at hx
  · split at hx
    · obtain ⟨b, _, rfl⟩ := System.after_eq_next hx
      exact HostState.afterLoop_of_receive hz
    · cases hx
      exact .inr hz
    · cases hx
  · cases hx
    split at hz
    · cases hz
    · exact .inr hz

/-- The block's part of a host's transaction, and the host's after it. -/
theorem System.move_host_eq_next {y z : System} {line : AsmLine} {i : Instr} (hx : y.move .host = .next z)
    (hl : y.host.issue = some line) (hd : decodeLabel y.block.params.itcBase (assemble line) = .instr i) :
    ∃ b, exec i y.block = .next b ∧ z = { block := b, host := y.host.receive b.response } := by
  simp only [System.move, hl, hd] at hx
  exact System.after_eq_next hx

/-! ## What the run has reached past the loop -/

theorem System.DrainedAtEnd.append {y : System} {ms : List Move} (h : y.DrainedAtEnd ms) (ns : List Move) :
    y.DrainedAtEnd (ms ++ ns) := by
  obtain ⟨ls, u, hls, hu⟩ := h
  exact ⟨ls, u, hls.trans (List.prefix_append ms ns), hu⟩

/-- What the run from `y` by the moves `ms` has reached when the host stands at a phase past the loop (R364). -/
def HostPhase.Ending (y : System) (ms : List Move) (b : State) : HostPhase → Prop
  | .finalDrain => b.completed = true
  | .ovrAfter | .finished => b.completed = true ∧ y.DrainedAtEnd ms
  | .excFreq | .excDur | .excCmd | .excWait | .settle | .discard | .ovrBefore | .acqFreq | .acqDur | .acqCmd
  | .checkBegin | .drain | .poll | .calls | .malformed | .rejected => True

theorem HostPhase.Ending.of_inLoop {p : HostPhase} (hp : p.afterLoop = false) (y : System) (ms : List Move)
    (b : State) : p.Ending y ms b := by
  cases p with
  | finalDrain | ovrAfter | finished => cases hp
  | _ => trivial

theorem HostPhase.Ending.idle {p : HostPhase} {y : System} {ms : List Move} {b : State} (h : p.Ending y ms b)
    (hp : p.afterLoop = true) : b.completed = true := by
  cases p with
  | finalDrain => exact h
  | ovrAfter | finished => exact And.left h
  | _ => cases hp

section
variable {y u z : System} {ms : List Move} (hx : u.move .host = .next z)
include hx

/-- The poll leaves the loop exactly when STATUS shows COMPLETED = 1 (R208). -/
theorem System.ending_poll (hphase : u.host.phase = .poll) : z.host.phase.Ending y (ms ++ [.host]) z.block := by
  obtain rfl := System.eq_of_move_host hx (by simp only [HostState.issue, hphase]) (decodeLabel_rd_status _)
    (exec_rdStatus _)
  simp only [HostState.receive, hphase, Response.value, isDone_statusWord]
  split
  · next hidle => exact hidle
  · trivial

/-- The final drain goes on to the second OVR_COUNT read exactly when it finds the buffer empty (R233). -/
theorem System.ending_finalDrain (hms : y.moves ms = .next u) (hphase : u.host.phase = .finalDrain)
    (hidle : u.block.completed = true) : z.host.phase.Ending y (ms ++ [.host]) z.block := by
  obtain ⟨b, hb, rfl⟩ := System.move_host_eq_next hx (by simp only [HostState.issue, hphase])
    (decodeLabel_rd_rbData _)
  rcases execRdRbData_eq_next hb with ⟨hempty, rfl⟩ | ⟨_, _, rfl⟩
  · simp only [HostState.receive, hphase, Response.value, popped_zero]
    exact ⟨hidle, ms, u, List.prefix_rfl, hms, hphase, hidle, hempty⟩
  · rw [HostState.receive_sample (.inr hphase), HostState.emit, hphase]
    exact hidle

/-- The second OVR_COUNT read ends the procedure. -/
theorem System.ending_ovrAfter (hphase : u.host.phase = .ovrAfter)
    (hend : u.block.completed = true ∧ y.DrainedAtEnd ms) : z.host.phase.Ending y (ms ++ [.host]) z.block := by
  obtain ⟨hidle, hdrained⟩ := hend
  obtain rfl := System.eq_of_move_host hx (by simp only [HostState.issue, hphase]) (decodeLabel_rd_ovrCount _) rfl
  simp only [HostState.receive, hphase]
  exact ⟨hidle, hdrained.append [.host]⟩

/-- A finished host does nothing. -/
theorem System.ending_finished (hphase : u.host.phase = .finished)
    (hend : u.block.completed = true ∧ y.DrainedAtEnd ms) : z.host.phase.Ending y (ms ++ [.host]) z.block := by
  have hover : u.host.over = true := by simp only [HostState.over, hphase]
  cases (System.move_host_of_over hover).symm.trans hx
  obtain ⟨hidle, hdrained⟩ := hend
  rw [hphase]
  exact ⟨hidle, hdrained.append [.host]⟩

/-- The host's turn keeps what the run has reached past the loop. -/
theorem System.ending_host (hms : y.moves ms = .next u) (hu : u.host.phase.Ending y ms u.block) :
    z.host.phase.Ending y (ms ++ [.host]) z.block := by
  cases hz : z.host.phase.afterLoop with
  | false => exact .of_inLoop hz y _ z.block
  | true =>
    rcases System.afterLoop_of_move_host hx hz with hpoll | hafter
    · exact System.ending_poll hx hpoll
    · cases hphase : u.host.phase <;> rw [hphase] at hu hafter
      case finalDrain => exact System.ending_finalDrain hx hms hphase hu
      case ovrAfter => exact System.ending_ovrAfter hx hphase hu
      case finished => exact System.ending_finished hx hphase hu
      all_goals cases hafter

end

/-- Past the loop the block is idle, so an event comes only before. -/
theorem System.ending_event {y u z : System} {ms : List Move} {m : Move} (hhost : z.host = u.host)
    (hrun : u.block.completed = false) (hu : u.host.phase.Ending y ms u.block) :
    z.host.phase.Ending y (ms ++ [m]) z.block := by
  have hloop : u.host.phase.afterLoop = false :=
    Bool.eq_false_iff.2 fun hafter => Bool.eq_false_iff.1 hrun (hu.idle hafter)
  rw [hhost]
  exact .of_inLoop hloop y _ z.block

theorem System.ending_move {y u z : System} {ms : List Move} {m : Move} (hctl : u.block.ControlInv)
    (hreset : m ≠ .reset) (hms : y.moves ms = .next u) (hx : u.move m = .next z)
    (hu : u.host.phase.Ending y ms u.block) : z.host.phase.Ending y (ms ++ [m]) z.block := by
  cases m with
  | host => exact System.ending_host hx hms hu
  | fire =>
    obtain ⟨hfire, hhost⟩ := System.after_event_eq_next hx
    obtain ⟨harmed, _⟩ := execFire_eq_next hfire
    exact System.ending_event hhost (hctl.running_iff.2 (.inl harmed)) hu
  | tick x =>
    obtain ⟨htick, hhost⟩ := System.after_event_eq_next hx
    obtain ⟨hpending, _⟩ := execTick_eq_next htick
    exact System.ending_event hhost (hctl.running_iff.2 (.inr hpending)) hu
  | reset => exact absurd rfl hreset

/-- The moves after a start keep the control invariant and what the run has reached past the loop: by induction on
them, with those already made as `ms`. -/
theorem System.ending_moves {y u z : System} {ms ns : List Move} (hctl : u.block.ControlInv) (hreset : .reset ∉ ns)
    (hms : y.moves ms = .next u) (hx : u.moves ns = .next z) (hu : u.host.phase.Ending y ms u.block) :
    z.block.ControlInv ∧ z.host.phase.Ending y (ms ++ ns) z.block := by
  induction ns generalizing u ms with
  | nil =>
    cases hx
    rw [List.append_nil]
    exact ⟨hctl, hu⟩
  | cons n ns ih =>
    obtain ⟨hn, hns⟩ := not_or.1 (List.mem_cons.not.1 hreset)
    obtain ⟨v, hv, hrest⟩ := System.moves_cons_eq_next hx
    have hmoves : y.moves (ms ++ [n]) = .next v := (System.moves_append hms).trans (System.moves_cons [] hv)
    rw [List.append_cons]
    exact ih (System.move_keeps (fun _ _ _ hs h => hs.exec h) hv hctl) hns hmoves hrest
      (System.ending_move hctl (Ne.symm hn) hms hv hu)

/-- A finished ACQUIRE_AND_STREAM has left the block idle, with the control invariant, and made its final drain. -/
theorem System.drainedAtEnd_of_finished {s : State} {f d : Word} {ms : List Move} {z : System} (hctl : s.ControlInv)
    (hreset : .reset ∉ ms) (hx : System.moves ⟨s, .acquire f d⟩ ms = .next z) (hphase : z.host.phase = .finished) :
    z.block.ControlInv ∧ z.block.completed = true ∧ System.DrainedAtEnd ⟨s, .acquire f d⟩ ms := by
  have hend := System.ending_moves (y := ⟨s, .acquire f d⟩) (ms := []) hctl hreset rfl hx trivial
  rw [hphase] at hend
  exact hend

/-- Settles O60: a finished host has the four items, for its block is idle; the shortest run that reaches them reaches
the same system, in which the host is finished, so it already holds the final drain. -/
theorem finishedAcquisitionEndsItsRun : Obligations.FinishedAcquisitionEndsItsRun := by
  refine ⟨fun s f d ms z hctl hreset hx hphase hfaults => ?_,
    fun y x hy => ⟨hy.move_fire, hy.move_tick x, hy.move_host⟩⟩
  obtain ⟨hcontrol, hidle, _⟩ := System.drainedAtEnd_of_finished hctl hreset hx hphase
  obtain ⟨harmed, hpending⟩ := hcontrol.quiet hidle
  have hend : z.RunEnd := ⟨by simp only [HostState.over, hphase], hidle, harmed, hpending, hfaults⟩
  obtain ⟨ns, hprefix, hmoves, hfirst⟩ := System.exists_runEndsIn hreset hx hend
  obtain ⟨_, _, hdrained⟩ :=
    System.drainedAtEnd_of_finished hctl (fun hmem => hreset (hprefix.subset hmem)) hmoves hphase
  exact ⟨ns, hprefix, ⟨hmoves, hfirst⟩, hdrained⟩

end Sys2Proof.Machine
